-- ==== Sys2Proof/Word.lean ====
section
/-! DEFINITION. The word types of the DX48's links and of its clock (00_scope.md, Conventions; R134).
A word on a link is 16 bits, a frame is made of bytes, and a line time is a 32-bit count of milliseconds that wraps.
Everything that does more than name a width stands under Machine/. -/

namespace Sys2Proof

/-- One byte of a frame. -/
abbrev Byte := BitVec 8

/-- One word of a request or a reply: 16 bits, most significant byte first on the link. -/
abbrev Word := BitVec 16

/-- A line time in milliseconds (R134): 32 bits, wrapping. -/
abbrev Time := BitVec 32

end Sys2Proof
end

