-- ==== Sys2Proof/Config.lean ====
section
/-! DEFINITION. What the part fixes for good (its capacities and its two fixed limits), and the one free value of the model. -/

namespace Sys2Proof.Config

/-- The bond record log holds up to 256 records (R145); the log reserve is exhausted at the same number (R43). -/
abbrev logCapacity : Nat := 256

/-- The notice queue holds up to 32 notices (R151). -/
abbrev noticeCapacity : Nat := 32

/-- The returned queue holds up to 16 die indices (R15). -/
abbrev returnedCapacity : Nat := 16

/-- The strip queue holds at most four strips (R73). -/
abbrev stripCapacity : Nat := 4

/-- A port's request queue holds up to four requests (R179). -/
abbrev requestCapacity : Nat := 4

/-- A port's reply queue holds up to eight replies (R180). -/
abbrev replyCapacity : Nat := 8

/-- A request carries at most 24 words (R174). -/
abbrev maxRequestWords : Nat := 24

/-- The fixed age limit of a capture queue entry, in milliseconds (R139). -/
abbrev captureAgeLimit : Nat := 60000

/-- The log-high condition is true while the log count is 192 or more (R150). -/
abbrev logHigh : Nat := 192

/-- The counters of 16 bits saturate at 65,535 (R140, R153, R176). -/
abbrev counterMax : Nat := 65535

/-- INIT ends at a line time of at most 2 (R135, R161). -/
abbrev initLimit : Nat := 2

/-- FREE VALUE (log entry 3). Where one event leaves several ports free to take their next queued request, or
several timers due at one line time, the manual gives no order (R181, R143). The model then takes the element
numbered `freeChoice n` modulo the number of candidates, `n` being the counter `State.choices`. It has no body, so
nothing can be proved about the order chosen. -/
opaque freeChoice : Nat → Nat

end Sys2Proof.Config
end

