-- ==== Sys2Proof/Syntax.lean ====
section
/-! DEFINITION. The commands of the DX48: one constructor of `Instr` for each row of spec/opcode_table.json.
A request row is the arrival of one well-formed request frame with that row's command code on its port: its tag and
its words are the operands (R174). An event row carries what names the event: a port, a head, a capture input, a site. -/

namespace Sys2Proof

/-- The two bond heads. -/
inductive Head
  | A
  | B
  deriving DecidableEq, Repr

/-- The five ports, by the role of their master (00_scope.md, The Cell Around the Part). -/
inductive Port
  | cell
  | headA
  | headB
  | table
  | dispense
  deriving DecidableEq, Repr

/-- The three capture inputs (R137). -/
inductive CaptureInput
  | shot
  | tda
  | tdb
  deriving DecidableEq, Repr

/-- What can happen at a capture input (R137). -/
inductive PinEvent
  /-- The input goes from low to high. -/
  | rises
  /-- The input has now been high for 2 µs without a break. -/
  | staysHigh
  /-- The input goes low. -/
  | falls
  deriving DecidableEq, Repr

/-- The two causes that hold the part in reset (R172): supply below its threshold, RESET# asserted. -/
inductive ResetKind
  | powerOn
  | pin
  deriving DecidableEq, Repr

/-- The two blocks that the mode controller reports a leaving of RUN to (R164). -/
inductive ReportTo
  | claimUnit
  | dispenseSequencer
  deriving DecidableEq, Repr

/-- The moments of a request frame that a port acts on. -/
inductive FrameEvent
  /-- The port's SEL pin goes low (R173, R205). -/
  | selected
  /-- The frame's first byte: the status byte is formed (R175). -/
  | begins
  /-- Select goes high after the whole bytes listed, with `extraBits` bits after the last whole byte (R173, R174). -/
  | ends (bytes : List Byte) (extraBits : Nat)
  deriving DecidableEq, Repr

/-- The moments of a fetch frame that a port acts on. -/
inductive FetchEvent
  /-- The port's SEL pin goes low (R173, R205). -/
  | selected
  /-- The frame's first byte begins: the status byte is formed (R175). -/
  | begins
  /-- The frame's first byte completes: the reply to shift out is fixed (R178). -/
  | firstByte
  /-- Select goes high after `bytes` whole bytes (R178). -/
  | ends (bytes : Nat)
  deriving DecidableEq, Repr

/-- The commands, in the order of spec/opcode_table.json. -/
inductive Instr
  /-- POWER_ON_RESET (R172): supply is applied and holds the part in reset. -/
  | powerOnReset
  /-- PIN_RESET (R172): RESET# is asserted and holds the part in reset. -/
  | pinReset
  /-- RESET_RELEASE (R161): one of the two causes of reset ends. -/
  | resetRelease (kind : ResetKind)
  /-- INIT_COMPLETE (R161): the die memory is cleared and INIT ends. -/
  | initComplete
  /-- LINE_TIME_STEP (R134): the 25,000th CLKIN cycle. -/
  | lineTimeStep
  /-- CAPTURE_EDGE (R137): a pin event at a capture input. -/
  | captureEdge (input : CaptureInput) (event : PinEvent)
  /-- CAPTURE_AGE_LIMIT (R139): the oldest entry of a capture queue reaches its age limit. -/
  | captureAgeLimit (input : CaptureInput)
  /-- PRESENTATION_TIMER_EXPIRY (R59). -/
  | presentationTimerExpiry
  /-- GRANT_TIMER_EXPIRY (R61). -/
  | grantTimerExpiry (head : Head)
  /-- PLACE_HOLD_EXPIRY (R129). -/
  | placeHoldExpiry (head : Head)
  /-- DISPENSE_HOLD_EXPIRY (R102). -/
  | dispenseHoldExpiry
  /-- POT_LIFE_EXPIRY (R106) of the site named by strip id, strip column and row. -/
  | potLifeExpiry (strip : Word) (column row : Nat)
  /-- HELD_REQUEST_WAIT_EXPIRY (R45) of a port's held request. -/
  | heldRequestWaitExpiry (port : Port)
  /-- REQUEST_FRAME (R174): a frame of raw bytes on a port. -/
  | requestFrame (port : Port) (event : FrameEvent)
  /-- FETCH (R178): a fetch frame on a port. -/
  | fetch (port : Port) (event : FetchEvent)
  /-- UNKNOWN_COMMAND (R181): a well-formed request frame whose code the port does not accept. -/
  | unknownCommand (port : Port) (code : Byte) (tag : Byte) (words : List Word)
  /-- CANCEL (R184). -/
  | cancel (port : Port) (tag : Byte) (words : List Word)
  /-- PORT-STATUS (R185). -/
  | portStatus (port : Port) (tag : Byte) (words : List Word)
  /-- ABORT (R195). -/
  | abort (port : Port) (tag : Byte) (words : List Word)
  /-- CLEAR-ABORT (R196). -/
  | clearAbort (port : Port) (tag : Byte) (words : List Word)
  /-- PORT_ABORT_ENTRY (R192): the port takes an entry into abort that HALT requested (R165). -/
  | portAbortEntry (port : Port)
  /-- RESERVE (R42). -/
  | reserve (head : Head) (tag : Byte) (words : List Word)
  /-- RELEASE (R47). -/
  | release (head : Head) (tag : Byte) (words : List Word)
  /-- DISCARD (R48). -/
  | discard (head : Head) (tag : Byte) (words : List Word)
  /-- PICK (R50). -/
  | pick (head : Head) (tag : Byte) (words : List Word)
  /-- PICKED (R56). -/
  | picked (head : Head) (tag : Byte) (words : List Word)
  /-- PICK-FAIL (R57). -/
  | pickFail (head : Head) (tag : Byte) (words : List Word)
  /-- PLACE (R116). -/
  | place (head : Head) (tag : Byte) (words : List Word)
  /-- BONDED (R124). -/
  | bonded (head : Head) (tag : Byte) (words : List Word)
  /-- BOND-FAIL (R128). -/
  | bondFail (head : Head) (tag : Byte) (words : List Word)
  /-- CLAIMS (R41). -/
  | claims (head : Head) (tag : Byte) (words : List Word)
  /-- AWAIT-ORDER (R53). -/
  | awaitOrder (tag : Byte) (words : List Word)
  /-- PRESENTED (R54). -/
  | presented (tag : Byte) (words : List Word)
  /-- PRESENT-FAIL (R55). -/
  | presentFail (tag : Byte) (words : List Word)
  /-- NEXT-SITE (R95). -/
  | nextSite (tag : Byte) (words : List Word)
  /-- DISPENSED (R100). -/
  | dispensed (tag : Byte) (words : List Word)
  /-- DISPENSE-FAIL (R101). -/
  | dispenseFail (tag : Byte) (words : List Word)
  /-- SET (R169) of a setting that has no row of its own. -/
  | set (tag : Byte) (words : List Word)
  /-- WRITE_BIN_SET (R14): SET of setting 28. -/
  | writeBinSet (tag : Byte) (value : BitVec 32)
  /-- WRITE_DRIFT_MAX (R35): SET of setting 7. -/
  | writeDriftMax (tag : Byte) (value : BitVec 32)
  /-- WRITE_WAFER_LOW (R20): SET of setting 29. -/
  | writeWaferLow (tag : Byte) (value : BitVec 32)
  /-- WRITE_PLACE_LEAD (R119): SET of setting 18. -/
  | writePlaceLead (tag : Byte) (value : BitVec 32)
  /-- GET (R170). -/
  | get (tag : Byte) (words : List Word)
  /-- START (R163). -/
  | start (tag : Byte) (words : List Word)
  /-- DRAIN (R162). -/
  | drain (tag : Byte) (words : List Word)
  /-- RESUME (R162). -/
  | resume (tag : Byte) (words : List Word)
  /-- HALT (R165). -/
  | halt (tag : Byte) (words : List Word)
  /-- STOP (R167). -/
  | stop (tag : Byte) (words : List Word)
  /-- LEAVING_RUN_REPORT (R164): the named block takes the report that the mode has left RUN. -/
  | leavingRunReport (dest : ReportTo)
  /-- RESET (R171, R186). -/
  | reset (tag : Byte) (words : List Word)
  /-- MAP-OPEN (R4, R5). -/
  | mapOpen (tag : Byte) (words : List Word)
  /-- MAP-DIE (R6, R7). -/
  | mapDie (tag : Byte) (words : List Word)
  /-- MAP-CLOSE (R8). -/
  | mapClose (tag : Byte) (words : List Word)
  /-- MAP-ABANDON (R9). -/
  | mapAbandon (tag : Byte) (words : List Word)
  /-- MAP-ALIGN (R10). -/
  | mapAlign (tag : Byte) (words : List Word)
  /-- WAFER-CLOSE (R11). -/
  | waferClose (tag : Byte) (words : List Word)
  /-- RESOLVE (R22). -/
  | resolve (tag : Byte) (words : List Word)
  /-- READ-DIE (R12). -/
  | readDie (tag : Byte) (words : List Word)
  /-- STRIP-LOAD (R74). -/
  | stripLoad (tag : Byte) (words : List Word)
  /-- STRIP-BAD (R75, R76). -/
  | stripBad (tag : Byte) (words : List Word)
  /-- TRACK-CLEAR (R87). -/
  | trackClear (tag : Byte) (words : List Word)
  /-- INDEX-REQUEST (R78). -/
  | indexRequest (tag : Byte) (words : List Word)
  /-- INDEX-DONE (R82). -/
  | indexDone (tag : Byte) (words : List Word)
  /-- INDEX-CANCEL (R80). -/
  | indexCancel (tag : Byte) (words : List Word)
  /-- READ-SITE (R89). -/
  | readSite (tag : Byte) (words : List Word)
  /-- READ-STATUS (R155). -/
  | readStatus (tag : Byte) (words : List Word)
  /-- READ-CLAIMS (R41). -/
  | readClaims (tag : Byte) (words : List Word)
  /-- READ-STATION (R65). -/
  | readStation (tag : Byte) (words : List Word)
  /-- READ-LOG (R148). -/
  | readLog (tag : Byte) (words : List Word)
  /-- READ-NOTICES (R154). -/
  | readNotices (tag : Byte) (words : List Word)
  /-- HEAD-ENABLE (R198). -/
  | headEnable (tag : Byte) (words : List Word)
  /-- FORFEIT (R199). -/
  | forfeit (tag : Byte) (words : List Word)
  /-- LAMP-ACK (R203). -/
  | lampAck (tag : Byte) (words : List Word)
  deriving DecidableEq, Repr

end Sys2Proof
end

