-- ==== Sys2Proof/WellFormed.lean ====
section
/-! DEFINITION. Which commands are well formed: the bounds that the link and the naming of sites put on their operands. -/

namespace Sys2Proof

/-- The settings that have a row of their own in the command table: DRIFT-MAX 7, PLACE-LEAD 18, BIN-SET 28, WAFER-LOW 29. -/
def settingsWithOwnRow : List Word := [7, 18, 28, 29]

/-- The command codes that are request codes on every port (R188): CANCEL, PORT-STATUS, ABORT, CLEAR-ABORT. -/
def commonCodes : List Byte := [0x01, 0x02, 0x03, 0x04]

/-- The command codes of the cell port's role (R188). -/
def cellCodes : List Byte :=
  [0x80, 0x81, 0x82, 0x83, 0x84, 0x85, 0x86, 0x87] ++
  [0x90, 0x91, 0x92, 0x93, 0x94, 0x95, 0x96, 0x97] ++
  [0xA0, 0xA1, 0xA2, 0xA3, 0xA4, 0xA5, 0xA6] ++
  [0xB0, 0xB1, 0xB2, 0xB3, 0xB4] ++ [0xC0, 0xC1, 0xC2]

/-- The command codes of a head port's role (R188). -/
def headCodes : List Byte :=
  [0x20, 0x21, 0x22, 0x23, 0x24, 0x25, 0x26, 0x27, 0x28, 0x29]

/-- The request codes a port accepts, by its role (R188). -/
def Port.codes : Port → List Byte
  | .cell => commonCodes ++ cellCodes
  | .headA => commonCodes ++ headCodes
  | .headB => commonCodes ++ headCodes
  | .table => commonCodes ++ [0x40, 0x41, 0x42]
  | .dispense => commonCodes ++ [0x50, 0x51, 0x52]

/-- A request carries at most 24 words (R174). -/
def wordsFit (ws : List Word) : Bool := ws.length ≤ Config.maxRequestWords

/-- A command is well formed when its operands are in the ranges the link can carry.
A frame of raw bytes is a REQUEST_FRAME unless its first byte is 00h, which makes it a FETCH (R173); fewer than
eight bits can follow its last whole byte. UNKNOWN_COMMAND names a code its port does not accept, and SET a setting
that has no row of its own. -/
def Instr.wellFormed : Instr → Bool
  | .powerOnReset => true
  | .pinReset => true
  | .resetRelease _ => true
  | .initComplete => true
  | .lineTimeStep => true
  | .captureEdge _ _ => true
  | .captureAgeLimit _ => true
  | .presentationTimerExpiry => true
  | .grantTimerExpiry _ => true
  | .placeHoldExpiry _ => true
  | .dispenseHoldExpiry => true
  | .potLifeExpiry _ column row => decide (column < 64) && decide (row < 8)
  | .heldRequestWaitExpiry _ => true
  | .requestFrame _ .selected => true
  | .requestFrame _ .begins => true
  | .requestFrame _ (.ends bytes extraBits) => decide (extraBits < 8) && (bytes.head? != some 0)
  | .fetch _ _ => true
  | .unknownCommand p code _ ws => wordsFit ws && (code != 0) && !(p.codes.contains code)
  | .cancel _ _ ws => wordsFit ws
  | .portStatus _ _ ws => wordsFit ws
  | .abort _ _ ws => wordsFit ws
  | .clearAbort _ _ ws => wordsFit ws
  | .portAbortEntry _ => true
  | .reserve _ _ ws => wordsFit ws
  | .release _ _ ws => wordsFit ws
  | .discard _ _ ws => wordsFit ws
  | .pick _ _ ws => wordsFit ws
  | .picked _ _ ws => wordsFit ws
  | .pickFail _ _ ws => wordsFit ws
  | .place _ _ ws => wordsFit ws
  | .bonded _ _ ws => wordsFit ws
  | .bondFail _ _ ws => wordsFit ws
  | .claims _ _ ws => wordsFit ws
  | .awaitOrder _ ws => wordsFit ws
  | .presented _ ws => wordsFit ws
  | .presentFail _ ws => wordsFit ws
  | .nextSite _ ws => wordsFit ws
  | .dispensed _ ws => wordsFit ws
  | .dispenseFail _ ws => wordsFit ws
  | .set _ ws => wordsFit ws && !(settingsWithOwnRow.contains (ws.headD 0))
  | .writeBinSet _ _ => true
  | .writeDriftMax _ _ => true
  | .writeWaferLow _ _ => true
  | .writePlaceLead _ _ => true
  | .get _ ws => wordsFit ws
  | .start _ ws => wordsFit ws
  | .drain _ ws => wordsFit ws
  | .resume _ ws => wordsFit ws
  | .halt _ ws => wordsFit ws
  | .stop _ ws => wordsFit ws
  | .leavingRunReport _ => true
  | .reset _ ws => wordsFit ws
  | .mapOpen _ ws => wordsFit ws
  | .mapDie _ ws => wordsFit ws
  | .mapClose _ ws => wordsFit ws
  | .mapAbandon _ ws => wordsFit ws
  | .mapAlign _ ws => wordsFit ws
  | .waferClose _ ws => wordsFit ws
  | .resolve _ ws => wordsFit ws
  | .readDie _ ws => wordsFit ws
  | .stripLoad _ ws => wordsFit ws
  | .stripBad _ ws => wordsFit ws
  | .trackClear _ ws => wordsFit ws
  | .indexRequest _ ws => wordsFit ws
  | .indexDone _ ws => wordsFit ws
  | .indexCancel _ ws => wordsFit ws
  | .readSite _ ws => wordsFit ws
  | .readStatus _ ws => wordsFit ws
  | .readClaims _ ws => wordsFit ws
  | .readStation _ ws => wordsFit ws
  | .readLog _ ws => wordsFit ws
  | .readNotices _ ws => wordsFit ws
  | .headEnable _ ws => wordsFit ws
  | .forfeit _ ws => wordsFit ws
  | .lampAck _ ws => wordsFit ws

end Sys2Proof
end

