-- ==== Sys2Proof/Decode.lean ====
section
/-! DEFINITION. The command that a table word spells. No row of spec/opcode_table.json gives bits (98_reader.md:
n_rows_with_fixed 0, n_rows_with_fields 0), so no word spells a command: the part takes frames and events, not opcode
words. The reading of a frame's bytes (R173, R174) stands in Machine/Frames.lean. -/

namespace Sys2Proof

/-- The command spelled by a word of the table's bits: none, since no row of the table has bits. -/
def decodeTableWord (_nbits _w : Nat) : Option Instr := none

end Sys2Proof
end

