-- ==== Sys2Proof/Machine/State.lean ====
section
/-! DEFINITION. The state of the DX48, block by block (00_scope.md, Block Overview), and the state right after a
power-on reset is released. All of it is plain data. INVENTORY.md lists every field with the rule that names it. -/

namespace Sys2Proof.Machine

open Sys2Proof

/-! ## Containers by head, by port and by capture input -/

/-- One value for each head. -/
structure PerHead (α : Type) where
  a : α
  b : α
  deriving DecidableEq, Repr

/-- One value for each port. -/
structure PerPort (α : Type) where
  cell : α
  headA : α
  headB : α
  table : α
  dispense : α
  deriving DecidableEq, Repr

/-- One value for each capture input. -/
structure PerInput (α : Type) where
  shot : α
  tda : α
  tdb : α
  deriving DecidableEq, Repr

/-! ## Die map (01) -/

/-- The nine die states (R1). -/
inductive DieState
  | available
  | reserved
  | staging
  | presented
  | carried
  | placed
  | rejected
  | suspect
  | lost
  deriving DecidableEq, Repr

/-- The reject causes and loss causes of a die (R1). -/
inductive DieCause
  | unreachable
  | offset
  | notFound
  | damaged
  | pickFailed
  | misplaced
  | dumped
  | resolved
  | dropped
  | forfeit
  | placeUnknown
  deriving DecidableEq, Repr

/-- A die record (R1); its die index is its place in the table. -/
structure DieRecord where
  column : Nat
  row : Nat
  bin : Nat
  state : DieState
  retries : Nat
  cause : Option DieCause
  claimant : Option Head
  deriving DecidableEq, Repr

/-- The alignment transform (R4, words 4 to 17; R25). Steps are in 1/256 count. -/
structure Transform where
  c0 : Nat
  r0 : Nat
  x0 : Int
  y0 : Int
  dxc : Int
  dyc : Int
  dxr : Int
  dyr : Int
  deriving DecidableEq, Repr

/-- What MAP-OPEN gives of a wafer (R4). -/
structure WaferInfo where
  wafer : Word
  dieCount : Nat
  columns : Nat
  rows : Nat
  transform : Transform
  deriving DecidableEq, Repr

/-- The map state; the wafer's fields are absent in NONE (R9, R11, R23). -/
inductive MapPhase
  | none
  | loading (w : WaferInfo)
  | ready (w : WaferInfo)
  deriving DecidableEq, Repr

/-- The nine per-state counts (R3). -/
structure DieCounts where
  available : Nat
  reserved : Nat
  staging : Nat
  presented : Nat
  carried : Nat
  placed : Nat
  rejected : Nat
  suspect : Nat
  lost : Nat
  deriving DecidableEq, Repr

/-- The die map's state (01, opening list). The bitmap is held as the list of the (column, row) positions it marks. -/
structure DieMap where
  phase : MapPhase
  nextIndex : Nat
  table : List DieRecord
  bitmap : List (Nat × Nat)
  counts : DieCounts
  eligible : Nat
  returned : List Nat
  cursor : Nat
  rescan : Bool
  waferLow : Bool
  waferEmpty : Bool
  deriving DecidableEq, Repr

/-! ## Coordinate unit (02) -/

/-- The drift accumulators Dx and Dy (R24). -/
structure Drift where
  dx : Int
  dy : Int
  deriving DecidableEq, Repr

/-! ## Claim unit and pick station arbiter (03) -/

/-- The states a claim entry can have (R39). -/
inductive ClaimState
  | reserved
  | staging
  | presented
  | carried
  deriving DecidableEq, Repr

/-- An entry of a claim list (R39); it is the copy of a carried die that outlives its wafer. -/
structure Claim where
  die : Nat
  wafer : Word
  column : Nat
  row : Nat
  bin : Nat
  state : ClaimState
  retries : Nat
  reserveTime : Time
  deriving DecidableEq, Repr

/-- What a granted station names (R49): the die, its wafer, its head and the target. -/
structure Order where
  die : Nat
  wafer : Word
  head : Head
  x : Int
  y : Int
  deriving DecidableEq, Repr

/-- The station record (R49); the order handout time is present in DELIVERED and PRESENTED. -/
inductive Station
  | free
  | ordered (o : Order)
  | delivered (o : Order) (handout : Time)
  | presented (o : Order) (handout : Time)
  deriving DecidableEq, Repr

/-- An entry of the waiting queue (R50). -/
structure Waiter where
  head : Head
  die : Nat
  deriving DecidableEq, Repr

/-- The pick station arbiter's state (R49 to R61). A timer is its expiry time, or none when it does not run. -/
structure Arbiter where
  station : Station
  waiting : List Waiter
  presentTimer : Option Time
  grantTimer : PerHead (Option Time)
  deriving DecidableEq, Repr

/-! ## Track unit (04) -/

/-- Where a time stamp came from (R99, R123). -/
inductive StampSource
  | capture
  | arrival
  deriving DecidableEq, Repr

/-- A dispense stamp with its source, and the deadline formed from it (R99, R100). -/
structure Stamp where
  time : Time
  source : StampSource
  deadline : Time
  deriving DecidableEq, Repr

/-- The spoil reasons (R71). -/
inductive SpoilReason
  | expired
  | exited
  | short
  | dispenseLost
  | misplaced
  | placeUnknown
  deriving DecidableEq, Repr

/-- A site record (R70): each state carries exactly the fields that are present in it. NONE is the absence of a record. -/
inductive Site
  | absent
  | clean
  | dispensing (handout : Time)
  | wet (st : Stamp)
  | assigned (st : Stamp) (head : Head) (since : Time) (late : Bool)
  | bonded (st : Stamp) (late : Bool) (die : Nat) (wafer : Word)
  | spoiled (reason : SpoilReason) (st : Option Stamp)
  | skipped
  deriving DecidableEq, Repr

/-- A column record (R69): one site record for each row in use. -/
structure Column where
  strip : Word
  column : Nat
  sites : List Site
  deriving DecidableEq, Repr

/-- A queued strip (R73). -/
structure Strip where
  id : Word
  count : Nat
  next : Nat
  masks : List Byte
  deriving DecidableEq, Repr

/-- The track state with its index amount (R77). -/
inductive TrackPhase
  | still
  | draining (n : Nat)
  | moving (n : Nat)
  deriving DecidableEq, Repr

/-- The track unit's state (R68, R73, R77). -/
structure Track where
  ring : Vector (Option Column) 64
  entry : Fin 64
  strips : List Strip
  phase : TrackPhase
  deriving DecidableEq, Repr

/-! ## Dispense sequencer (05) -/

/-- The dispensing site reference with its handout time (R95). -/
structure DispenseRef where
  strip : Word
  column : Nat
  row : Nat
  handout : Time
  deriving DecidableEq, Repr

/-- The dispense sequencer's state (R91, R95, R102). The pot-life timers are the sites' own deadlines (R105). -/
structure Dispenser where
  site : Option DispenseRef
  hold : Option Time
  wet : Nat
  deriving DecidableEq, Repr

/-! ## Placement unit (06) -/

/-- An entry of the placer queue (R117). -/
structure Placer where
  head : Head
  die : Nat
  wafer : Word
  deriving DecidableEq, Repr

/-- An assigned-site record (R110). -/
structure Assigned where
  strip : Word
  column : Nat
  row : Nat
  position : Nat
  die : Nat
  wafer : Word
  since : Time
  deriving DecidableEq, Repr

/-- The placement unit's state (R110, R117, R120). -/
structure Placement where
  queue : List Placer
  assigned : PerHead (Option Assigned)
  hold : PerHead (Option Time)
  deriving DecidableEq, Repr

/-! ## Line timer and capture unit (07) -/

/-- The level of a capture input as the edge filter sees it (R137): low, risen and not yet qualified, or high with
no edge left to record until it goes low. -/
inductive PinLevel
  | low
  | rising
  | high
  deriving DecidableEq, Repr

/-- One capture input with its queue (oldest first) and its two counters (R138, R140). -/
structure CaptureLine where
  queue : List Time
  stray : Nat
  lost : Nat
  pin : PinLevel
  deriving DecidableEq, Repr

/-! ## Report unit (08) -/

/-- A bond record (R125, R147). -/
structure BondRecord where
  seq : BitVec 32
  wafer : Word
  die : Nat
  dieColumn : Nat
  dieRow : Nat
  bin : Nat
  retries : Nat
  strip : Word
  stripColumn : Nat
  row : Nat
  position : Nat
  head : Head
  late : Bool
  stamp : Time
  stampSource : StampSource
  bondTime : Time
  bondSource : StampSource
  margin : BitVec 32
  deriving DecidableEq, Repr

/-- The notice kinds (R152). -/
inductive NoticeKind
  | siteSpoiled
  | lateBond
  | columnExit
  | indexReady
  | dieRejected
  | unreachable
  | dieSuspect
  | dieLost
  | waferLow
  | waferEmpty
  | waferClosed
  | portAborted
  | noticesDropped
  deriving DecidableEq, Repr

/-- A notice (R151). -/
structure Notice where
  kind : NoticeKind
  time : Time
  data : List Word
  deriving DecidableEq, Repr

/-- The report unit's state (08, opening list). -/
structure ReportUnit where
  log : List BondRecord
  nextSeq : BitVec 32
  notices : List Notice
  dropped : Nat
  deriving DecidableEq, Repr

/-! ## Link units (10, 11) -/

/-- A queued request as it came (R179). -/
structure Request where
  code : Byte
  tag : Byte
  words : List Word
  deriving DecidableEq, Repr

/-- The reply codes that can be queued (R187); EMPTY is never queued. -/
inductive ReplyCode
  | done
  | clamped
  | die
  | go
  | site
  | order
  | none
  | badcmd
  | badparam
  | mode
  | state
  | full
  | busy
  | timeout
  | cancelled
  | aborted
  | dieRejected
  | fault
  | stale
  deriving DecidableEq, Repr

/-- A reply in a reply queue (R180). -/
structure Reply where
  tag : Byte
  code : ReplyCode
  words : List Word
  deriving DecidableEq, Repr

/-- The held-request slot (R182): the request, the line time of holding, and the wait timer's expiry if one runs. -/
structure Held where
  request : Request
  since : Time
  expiry : Option Time
  deriving DecidableEq, Repr

/-- The causes of an abort (R191). -/
inductive AbortCause
  | masterAbort
  | lineHalt
  | headDisabled
  | grantExpired
  | placeExpired
  | presentExpired
  | dispenseExpired
  deriving DecidableEq, Repr

/-- A cause in a port's cause set, with its sticky mark (R191). -/
structure CauseMark where
  cause : AbortCause
  sticky : Bool
  deriving DecidableEq, Repr

/-- A frame in progress: the status byte formed as its first byte began (R175), the reply that was oldest as that byte
completed (R178), and whether that reply is still in the queue (a soft reset takes it away, R178). -/
structure OpenFrame where
  status : Byte
  oldest : Option Reply
  live : Bool
  deriving DecidableEq, Repr

/-- A link unit's state (R175 to R182, R191), the entries HALT has requested of it (R165), the level of its SEL pin
(R205), its frame in progress, and the bytes its last ended frame shifted out. -/
structure Link where
  requests : List Request
  replies : List Reply
  held : Option Held
  lost : Bool
  lostFrames : Nat
  fresh : Bool
  causes : List CauseMark
  flushed : Nat
  firstCause : Option Time
  haltEntries : Nat
  selectLow : Bool
  frame : Option OpenFrame
  sdo : List Byte
  deriving DecidableEq, Repr

/-! ## Mode controller (09) -/

/-- The line modes (R160). -/
inductive LineMode
  | init
  | setup
  | run
  | drain
  | halt
  deriving DecidableEq, Repr

/-- The settings table (09, before R169). A configuration setting is kept as its configuration word. -/
structure Settings where
  travelXMin : Int
  travelXMax : Int
  travelYMin : Int
  travelYMax : Int
  rejectLimit : Nat
  driftWeight : Nat
  driftMax : Nat
  pickRetries : Nat
  lookahead : Nat
  grantHold : Nat
  presentLimit : Nat
  reserveWait : Nat
  placeWait : Nat
  siteWait : Nat
  placeHold : Nat
  dispenseHold : Nat
  openTime : Nat
  placeLead : Nat
  wetLimit : Nat
  keepOut : Nat
  trackLength : Nat
  rows : Nat
  dispenseStart : Nat
  dispenseEnd : Nat
  bondStart : Nat
  bondEnd : Nat
  dispenseOrder : Nat
  binSet : Word
  waferLow : Nat
  attn : PerPort Word
  lamp0 : Word
  lamp1 : Word
  lamp2 : Word
  lamp3 : Word
  deriving DecidableEq, Repr

/-- Leaving-RUN reports requested and not yet taken (R164), one count for each block that is told. -/
structure Reports where
  claimUnit : Nat
  dispenseSequencer : Nat
  deriving DecidableEq, Repr

/-! ## The whole part -/

/-- The state of the part. `pending` is the queue of commands waiting, `choices` the counter of free choices
(log entry 3); both are the model's own. -/
structure State where
  pending : List Instr
  choices : Nat
  supplyLow : Bool
  resetLow : Bool
  mode : LineMode
  lineTime : Time
  reports : Reports
  headEnabled : PerHead Bool
  settings : Settings
  map : DieMap
  drift : Drift
  claims : PerHead (List Claim)
  arbiter : Arbiter
  track : Track
  dispenser : Dispenser
  placement : Placement
  capture : PerInput CaptureLine
  report : ReportUnit
  links : PerPort Link
  spoilLatch : Bool
  deriving DecidableEq, Repr

/-- The faults of the machine: none. The part answers, aborts a port, discards or counts; no command stops it. -/
inductive Fault
  deriving DecidableEq, Repr

/-- The refusals of the model. -/
inductive Refusal
  /-- Raised by an arm of `exec` whose command has no meaning yet; safe. -/
  | notModelled (mnemonic : String)
  deriving DecidableEq, Repr

/-! ## Reset values -/

/-- The defaults of the settings table (09; R172). -/
def Settings.default : Settings where
  travelXMin := -1500000
  travelXMax := 1500000
  travelYMin := -1500000
  travelYMax := 1500000
  rejectLimit := 200
  driftWeight := 4
  driftMax := 500
  pickRetries := 1
  lookahead := 1
  grantHold := 60
  presentLimit := 150
  reserveWait := 2000
  placeWait := 1000
  siteWait := 1000
  placeHold := 800
  dispenseHold := 500
  openTime := 3000
  placeLead := 250
  wetLimit := 16
  keepOut := 2
  trackLength := 40
  rows := 4
  dispenseStart := 10
  dispenseEnd := 17
  bondStart := 20
  bondEnd := 31
  dispenseOrder := 0
  binSet := 0x0002
  waferLow := 50
  attn := ⟨0x0011, 0x0011, 0x0011, 0x0011, 0x0011⟩
  lamp0 := 0x0002
  lamp1 := 0x0028
  lamp2 := 0x0015
  lamp3 := 0x0000

/-- All nine counts zero (R3, R23). -/
def DieCounts.zero : DieCounts := ⟨0, 0, 0, 0, 0, 0, 0, 0, 0⟩

/-- The die map after a reset (R23). -/
def DieMap.reset : DieMap where
  phase := .none
  nextIndex := 0
  table := []
  bitmap := []
  counts := DieCounts.zero
  eligible := 0
  returned := []
  cursor := 0
  rescan := false
  waferLow := false
  waferEmpty := false

/-- The arbiter after a reset (R67). -/
def Arbiter.reset : Arbiter where
  station := .free
  waiting := []
  presentTimer := none
  grantTimer := ⟨none, none⟩

/-- The track unit after a reset (R90). -/
def Track.reset : Track where
  ring := Vector.replicate 64 none
  entry := 0
  strips := []
  phase := .still

/-- The dispense sequencer after a reset (R109). -/
def Dispenser.reset : Dispenser where
  site := none
  hold := none
  wet := 0

/-- The placement unit after a reset (R133). -/
def Placement.reset : Placement where
  queue := []
  assigned := ⟨none, none⟩
  hold := ⟨none, none⟩

/-- A capture line with an empty queue and clear counters (R144), its input at the level given. -/
def CaptureLine.reset (pin : PinLevel) : CaptureLine where
  queue := []
  stray := 0
  lost := 0
  pin := pin

/-- The report unit after a reset (R159). -/
def ReportUnit.reset : ReportUnit where
  log := []
  nextSeq := 0
  notices := []
  dropped := 0

/-- A link unit after a reset (R190, R200), with no frame in progress. DESIGN CHOICE: its SEL pin is high (log entry
25). -/
def Link.reset : Link where
  requests := []
  replies := []
  held := none
  lost := false
  lostFrames := 0
  fresh := true
  causes := []
  flushed := 0
  firstCause := none
  haltEntries := 0
  selectLow := false
  frame := none
  sdo := []

/-- The machine right after a power-on reset is released (log entry 1): INIT, line time 0, every block at its
power-on value. DESIGN CHOICE: the capture inputs read low (log entry 13), every SEL pin is high (log entry 25), and no frame has been
shifted (log entry 15). -/
def State.reset : State where
  pending := []
  choices := 0
  supplyLow := false
  resetLow := false
  mode := .init
  lineTime := 0
  reports := ⟨0, 0⟩
  headEnabled := ⟨true, true⟩
  settings := Settings.default
  map := DieMap.reset
  drift := ⟨0, 0⟩
  claims := ⟨[], []⟩
  arbiter := Arbiter.reset
  track := Track.reset
  dispenser := Dispenser.reset
  placement := Placement.reset
  capture := ⟨CaptureLine.reset .low, CaptureLine.reset .low, CaptureLine.reset .low⟩
  report := ReportUnit.reset
  links := ⟨Link.reset, Link.reset, Link.reset, Link.reset, Link.reset⟩
  spoilLatch := false

end Sys2Proof.Machine
end

