-- ==== Sys2Proof/Machine/Ops.lean ====
section
/-! DEFINITION. The named operations that every block shares: access by head, port and input; line-time comparison
(R136); packing of words; a port's replies and its held-request slot (R180, R182); the notice queue (R151, R153). -/

namespace Sys2Proof

/-! ## Heads and ports -/

/-- The five ports in the order of their numbers. -/
def Port.all : List Port := [.cell, .headA, .headB, .table, .dispense]

/-- The port number, 0 to 4 (R173). -/
def Port.number : Port → Nat
  | .cell => 0
  | .headA => 1
  | .headB => 2
  | .table => 3
  | .dispense => 4

/-- The head a head port serves. -/
def Port.head? : Port → Option Head
  | .headA => some .A
  | .headB => some .B
  | .cell => none
  | .table => none
  | .dispense => none

/-- A head's port. -/
def Head.port : Head → Port
  | .A => .headA
  | .B => .headB

/-- The other head. -/
def Head.other : Head → Head
  | .A => .B
  | .B => .A

/-- The capture input a head drives (R137). -/
def Head.touchdown : Head → CaptureInput
  | .A => .tda
  | .B => .tdb

end Sys2Proof

namespace Sys2Proof.Machine

open Sys2Proof

/-! ## Access by head, by port and by capture input -/

def PerHead.get {α : Type} (x : PerHead α) : Head → α
  | .A => x.a
  | .B => x.b

def PerHead.set {α : Type} (x : PerHead α) (h : Head) (v : α) : PerHead α :=
  match h with
  | .A => { x with a := v }
  | .B => { x with b := v }

def PerPort.get {α : Type} (x : PerPort α) : Port → α
  | .cell => x.cell
  | .headA => x.headA
  | .headB => x.headB
  | .table => x.table
  | .dispense => x.dispense

def PerPort.set {α : Type} (x : PerPort α) (p : Port) (v : α) : PerPort α :=
  match p with
  | .cell => { x with cell := v }
  | .headA => { x with headA := v }
  | .headB => { x with headB := v }
  | .table => { x with table := v }
  | .dispense => { x with dispense := v }

/-- The same change at every port. -/
def PerPort.map {α : Type} (f : α → α) (x : PerPort α) : PerPort α where
  cell := f x.cell
  headA := f x.headA
  headB := f x.headB
  table := f x.table
  dispense := f x.dispense

def PerInput.get {α : Type} (x : PerInput α) : CaptureInput → α
  | .shot => x.shot
  | .tda => x.tda
  | .tdb => x.tdb

def PerInput.set {α : Type} (x : PerInput α) (i : CaptureInput) (v : α) : PerInput α :=
  match i with
  | .shot => { x with shot := v }
  | .tda => { x with tda := v }
  | .tdb => { x with tdb := v }

/-- The same change at every capture input. -/
def PerInput.map {α : Type} (f : α → α) (x : PerInput α) : PerInput α where
  shot := f x.shot
  tda := f x.tda
  tdb := f x.tdb

/-! ## Line time (R136) -/

/-- `a` is earlier than `b`: `(a − b) mod 2^32` is 2^31 or above. -/
def earlier (a b : Time) : Bool := decide (2 ^ 31 ≤ (a - b).toNat)

/-- `a` is not earlier than `b`: `(a − b) mod 2^32` is below 2^31. -/
def notEarlier (a b : Time) : Bool := decide ((a - b).toNat < 2 ^ 31)

/-- `a` is later than `b`: `(a − b) mod 2^32` is in 1..2^31 − 1. -/
def later (a b : Time) : Bool := decide (1 ≤ (a - b).toNat) && decide ((a - b).toNat < 2 ^ 31)

/-- The signed difference `a − b`. -/
def signedDiff (a b : Time) : Int := (a - b).toInt

/-- A line time plus a duration in milliseconds, modulo 2^32. -/
def after (t : Time) (ms : Nat) : Time := t + BitVec.ofNat 32 ms

/-- A timer given by its expiry time has run out at `now` (R142); a stopped timer never has. -/
def expired (now : Time) : Option Time → Bool
  | none => false
  | some t => notEarlier now t

/-! ## Counters and words -/

/-- A 16-bit counter rises by `k`, saturating at 65,535 (R140, R153, R176). -/
def satAdd (n k : Nat) : Nat := min (n + k) Config.counterMax

/-- A number as one word. -/
def word (n : Nat) : Word := BitVec.ofNat 16 n

/-- A signed number as one word. -/
def wordInt (z : Int) : Word := BitVec.ofInt 16 z

/-- A 32-bit value as two words, high word first. -/
def words32 (v : BitVec 32) : List Word := [v.extractLsb' 16 16, v.extractLsb' 0 16]

/-- A signed number as two words, high word first. -/
def wordsInt (z : Int) : List Word := words32 (BitVec.ofInt 32 z)

/-- A line time as two words, 0 when absent. -/
def wordsTime (t : Option Time) : List Word := words32 (t.getD 0)

/-- Two bytes in one word: `hi` in bits 15:8, `lo` in bits 7:0. -/
def bytePair (hi lo : Nat) : Word := BitVec.ofNat 16 (hi % 256 * 256 + lo % 256)

/-- A flag as a number. -/
def bit (b : Bool) : Nat := if b then 1 else 0

/-- The word `i` of a request, 0 when there is none. -/
def wordAt (ws : List Word) (i : Nat) : Word := ws.getD i 0

/-- The number in word `i` of a request. -/
def natAt (ws : List Word) (i : Nat) : Nat := (wordAt ws i).toNat

/-- The 32-bit signed number whose high word is word `i` of a request. -/
def intAt (ws : List Word) (i : Nat) : Int := (wordAt ws i ++ wordAt ws (i + 1) : BitVec 32).toInt

/-! ## The ports -/

/-- The link unit of a port. -/
def State.link (s : State) (p : Port) : Link := s.links.get p

/-- Replace the link unit of a port. -/
def State.setLink (s : State) (p : Port) (l : Link) : State := { s with links := s.links.set p l }

/-- The part is held in a power-on or pin reset (R172). -/
def State.inReset (s : State) : Bool := s.supplyLow || s.resetLow

/-- A port is aborted while its cause set is not empty (R191). -/
def State.isAborted (s : State) (p : Port) : Bool := !(s.link p).causes.isEmpty

/-- Append a reply to a port's reply queue (R180). -/
def State.reply (s : State) (p : Port) (tag : Byte) (code : ReplyCode) (ws : List Word) : State :=
  s.setLink p { s.link p with replies := (s.link p).replies ++ [⟨tag, code, ws⟩] }

/-- Put a request in a port's held-request slot (R182), with the expiry of its wait timer if one starts. -/
def State.hold (s : State) (p : Port) (r : Request) (expiry : Option Time) : State :=
  s.setLink p { s.link p with held := some ⟨r, s.lineTime, expiry⟩ }

/-- The port's slot holds a request with this command code. -/
def State.holds (s : State) (p : Port) (code : Byte) : Bool :=
  match (s.link p).held with
  | none => false
  | some h => h.request.code == code

/-- Answer the request a port holds, if it holds one: its reply is appended, the slot is emptied and its wait timer
stops with it (R182). -/
def State.answerHeld (s : State) (p : Port) (code : ReplyCode) (ws : List Word) : State :=
  match (s.link p).held with
  | none => s
  | some h =>
    s.setLink p { s.link p with
      held := none
      replies := (s.link p).replies ++ [⟨h.request.tag, code, ws⟩] }

/-! ## Notices -/

/-- Queue a notice at the present line time; a full queue drops it and counts it (R151, R153). -/
def State.notify (s : State) (kind : NoticeKind) (data : List Word) : State :=
  if s.report.notices.length < Config.noticeCapacity then
    { s with report := { s.report with notices := s.report.notices ++ [⟨kind, s.lineTime, data⟩] } }
  else
    { s with report := { s.report with dropped := satAdd s.report.dropped 1 } }

/-! ## Free choices (log entry 3) -/

/-- Take one of several candidates where the manual gives no order. With at most one candidate nothing is chosen. -/
def pickOne {α : Type} (n : Nat) : List α → Option α
  | [] => none
  | [x] => some x
  | x :: y :: rest => (x :: y :: rest)[Config.freeChoice n % (rest.length + 2)]?

/-- One more free choice has been made. -/
def State.choose (s : State) : State := { s with choices := s.choices + 1 }

end Sys2Proof.Machine
end

