-- ==== Sys2Proof/Machine/Operands.lean ====
section
/-! DEFINITION. The codes by which requests and replies name things: command codes (R188), reply codes (R187), die
states and causes (R1), site states and spoil reasons (R71), notice kinds (R152), abort causes (R191), modes (R160);
and the fields of request words that carry codes. -/

namespace Sys2Proof

/-- The head codes: 1 for head A, 2 for head B. -/
def Head.code : Head → Nat
  | .A => 1
  | .B => 2

end Sys2Proof

namespace Sys2Proof.Machine

open Sys2Proof

/-- The requests by name (R188). -/
inductive Command
  | cancel
  | portStatus
  | abort
  | clearAbort
  | reserve
  | release
  | pick
  | picked
  | pickFail
  | place
  | bonded
  | bondFail
  | discard
  | claims
  | awaitOrder
  | presented
  | presentFail
  | nextSite
  | dispensed
  | dispenseFail
  | set
  | get
  | start
  | drain
  | resume
  | halt
  | stop
  | reset
  | mapOpen
  | mapDie
  | mapClose
  | mapAbandon
  | mapAlign
  | waferClose
  | resolve
  | readDie
  | stripLoad
  | stripBad
  | trackClear
  | indexRequest
  | indexDone
  | indexCancel
  | readSite
  | readStatus
  | readClaims
  | readStation
  | readLog
  | readNotices
  | headEnable
  | forfeit
  | lampAck
  deriving DecidableEq, Repr

/-- The command codes (R188). -/
def Command.code : Command → Byte
  | .cancel => 0x01
  | .portStatus => 0x02
  | .abort => 0x03
  | .clearAbort => 0x04
  | .reserve => 0x20
  | .release => 0x21
  | .pick => 0x22
  | .picked => 0x23
  | .pickFail => 0x24
  | .place => 0x25
  | .bonded => 0x26
  | .bondFail => 0x27
  | .discard => 0x28
  | .claims => 0x29
  | .awaitOrder => 0x40
  | .presented => 0x41
  | .presentFail => 0x42
  | .nextSite => 0x50
  | .dispensed => 0x51
  | .dispenseFail => 0x52
  | .set => 0x80
  | .get => 0x81
  | .start => 0x82
  | .drain => 0x83
  | .resume => 0x84
  | .halt => 0x85
  | .stop => 0x86
  | .reset => 0x87
  | .mapOpen => 0x90
  | .mapDie => 0x91
  | .mapClose => 0x92
  | .mapAbandon => 0x93
  | .mapAlign => 0x94
  | .waferClose => 0x95
  | .resolve => 0x96
  | .readDie => 0x97
  | .stripLoad => 0xA0
  | .stripBad => 0xA1
  | .trackClear => 0xA2
  | .indexRequest => 0xA3
  | .indexDone => 0xA4
  | .indexCancel => 0xA5
  | .readSite => 0xA6
  | .readStatus => 0xB0
  | .readClaims => 0xB1
  | .readStation => 0xB2
  | .readLog => 0xB3
  | .readNotices => 0xB4
  | .headEnable => 0xC0
  | .forfeit => 0xC1
  | .lampAck => 0xC2

/-- Every request of R188, in its order. -/
def Command.all : List Command :=
  [.cancel, .portStatus, .abort, .clearAbort, .reserve, .release, .pick, .picked, .pickFail, .place,
    .bonded, .bondFail, .discard, .claims, .awaitOrder, .presented, .presentFail, .nextSite, .dispensed,
    .dispenseFail, .set, .get, .start, .drain, .resume, .halt, .stop, .reset, .mapOpen, .mapDie, .mapClose,
    .mapAbandon, .mapAlign, .waferClose, .resolve, .readDie, .stripLoad, .stripBad, .trackClear,
    .indexRequest, .indexDone, .indexCancel, .readSite, .readStatus, .readClaims, .readStation, .readLog,
    .readNotices, .headEnable, .forfeit, .lampAck]

/-- The request a command code names; none when it is not a command code (R181). -/
def Command.ofCode (b : Byte) : Option Command := Command.all.find? fun c => c.code == b

end Sys2Proof.Machine

namespace Sys2Proof

open Sys2Proof.Machine

/-- The request a code names on a port, when its role accepts it (R181, R188). -/
def Port.command (p : Port) (b : Byte) : Option Command :=
  if p.codes.contains b then Command.ofCode b else none

/-- The requests taken at the end of their frame: CANCEL and PORT-STATUS on every port, RESET on the cell port (R183). -/
def Port.isImmediate (p : Port) (b : Byte) : Bool :=
  b == Command.cancel.code || b == Command.portStatus.code || (p == .cell && b == Command.reset.code)

end Sys2Proof

namespace Sys2Proof.Machine

open Sys2Proof

/-- The reply codes (R187). -/
def ReplyCode.byte : ReplyCode → Byte
  | .done => 0x01
  | .clamped => 0x02
  | .die => 0x03
  | .go => 0x04
  | .site => 0x05
  | .order => 0x06
  | .none => 0x07
  | .badcmd => 0x10
  | .badparam => 0x11
  | .mode => 0x12
  | .state => 0x13
  | .full => 0x14
  | .busy => 0x15
  | .timeout => 0x16
  | .cancelled => 0x17
  | .aborted => 0x18
  | .dieRejected => 0x19
  | .fault => 0x1A
  | .stale => 0x1B

/-- A head code word; none when it is neither 1 nor 2. -/
def headOf (w : Word) : Option Head :=
  if w = 1 then some .A else if w = 2 then some .B else none

/-- A head code, 0 when absent. -/
def headCode (h : Option Head) : Nat :=
  match h with
  | none => 0
  | some x => x.code

/-- The die state codes (R1). -/
def DieState.code : DieState → Nat
  | .available => 0
  | .reserved => 1
  | .staging => 2
  | .presented => 3
  | .carried => 4
  | .placed => 5
  | .rejected => 6
  | .suspect => 7
  | .lost => 8

/-- The die state a claim entry follows (R39). -/
def ClaimState.die : ClaimState → DieState
  | .reserved => .reserved
  | .staging => .staging
  | .presented => .presented
  | .carried => .carried

/-- The reject and loss cause codes (R1). -/
def DieCause.code : DieCause → Nat
  | .unreachable => 1
  | .offset => 2
  | .notFound => 3
  | .damaged => 4
  | .pickFailed => 5
  | .misplaced => 6
  | .dumped => 7
  | .resolved => 8
  | .dropped => 9
  | .forfeit => 10
  | .placeUnknown => 11

/-- The site state codes (R71); NONE is 0. -/
def Site.code : Site → Nat
  | .absent => 1
  | .clean => 2
  | .dispensing _ => 3
  | .wet _ => 4
  | .assigned _ _ _ _ => 5
  | .bonded _ _ _ _ => 6
  | .spoiled _ _ => 7
  | .skipped => 8

/-- The spoil reason codes (R71). -/
def SpoilReason.code : SpoilReason → Nat
  | .expired => 1
  | .exited => 2
  | .short => 3
  | .dispenseLost => 4
  | .misplaced => 5
  | .placeUnknown => 6

/-- The codes of a stamp's source: 0 capture, 1 arrival (R100, R147). -/
def StampSource.code : StampSource → Nat
  | .capture => 0
  | .arrival => 1

/-- The notice kind codes (R152). -/
def NoticeKind.code : NoticeKind → Nat
  | .siteSpoiled => 1
  | .lateBond => 2
  | .columnExit => 3
  | .indexReady => 4
  | .dieRejected => 5
  | .unreachable => 6
  | .dieSuspect => 7
  | .dieLost => 8
  | .waferLow => 9
  | .waferEmpty => 10
  | .waferClosed => 11
  | .portAborted => 12
  | .noticesDropped => 13

/-- The abort cause codes (R191). -/
def AbortCause.code : AbortCause → Nat
  | .masterAbort => 1
  | .lineHalt => 2
  | .headDisabled => 3
  | .grantExpired => 4
  | .placeExpired => 5
  | .presentExpired => 6
  | .dispenseExpired => 7

/-- The line mode codes (R160). -/
def LineMode.code : LineMode → Nat
  | .init => 0
  | .setup => 1
  | .run => 2
  | .drain => 3
  | .halt => 4

/-- The track state codes (R78). -/
def TrackPhase.code : TrackPhase → Nat
  | .still => 0
  | .draining _ => 1
  | .moving _ => 2

/-- The index amount, 0 when absent (R157). -/
def TrackPhase.amount : TrackPhase → Nat
  | .still => 0
  | .draining n => n
  | .moving n => n

/-- The map state codes (R156). -/
def MapPhase.code : MapPhase → Nat
  | .none => 0
  | .loading _ => 1
  | .ready _ => 2

/-- The wafer's fields, absent in NONE. -/
def MapPhase.info : MapPhase → Option WaferInfo
  | .none => Option.none
  | .loading w => some w
  | .ready w => some w

/-- The station state codes (R65). -/
def Station.code : Station → Nat
  | .free => 0
  | .ordered _ => 1
  | .delivered _ _ => 2
  | .presented _ _ => 3

/-- What the station names, absent in FREE (R49). -/
def Station.order : Station → Option Order
  | .free => none
  | .ordered o => some o
  | .delivered o _ => some o
  | .presented o _ => some o

/-- The order handout time, present in DELIVERED and PRESENTED (R49). -/
def Station.handout : Station → Option Time
  | .free => none
  | .ordered _ => none
  | .delivered _ t => some t
  | .presented _ t => some t

end Sys2Proof.Machine
end

