-- ==== Sys2Proof/Machine/Flags.lean ====
section
/-! DEFINITION. The flags and outputs that are computed from the state: the status byte (R175), the attention lines
(R189), the drive of SDO (R205), the log-high condition (R150), the lamp sources and levels (R201, R202), the axis word (R28), and a cause set
as a word (R191). -/

namespace Sys2Proof.Machine

open Sys2Proof

/-- The status byte a port would shift out now (R175): reply count in bits 7:4, aborted 3, held 2, fresh 1, lost 0. -/
def State.statusByte (s : State) (p : Port) : Byte :=
  BitVec.ofNat 8 ((s.link p).replies.length * 16 + bit (s.isAborted p) * 8 + bit (s.link p).held.isSome * 4
    + bit (s.link p).fresh * 2 + bit (s.link p).lost)

/-- The attention configuration of a port (R189): settings 30 to 34. -/
def State.attnConfig (s : State) (p : Port) : Word := s.settings.attn.get p

/-- The level field of an attention configuration, bits 3:0. -/
def attnLevel (w : Word) : Nat := (w.extractLsb' 0 4).toNat

/-- The mode field of an attention configuration, bit 4. -/
def attnMode (w : Word) : Bool := w.getLsbD 4

/-- ATTN of a port is asserted, its line pulled low (R189); while the part is held in reset every ATTN is released. -/
def State.attn (s : State) (p : Port) : Bool :=
  !s.inReset &&
    (decide (attnLevel (s.attnConfig p) ≤ (s.link p).replies.length)
      || (attnMode (s.attnConfig p) && s.isAborted p)
      || (attnMode (s.attnConfig p) && p == .cell && !s.report.notices.isEmpty))

/-- SDO of a port is driven (R205): while the part is not held in reset and the port's SEL pin is low. Otherwise SDO is
at high impedance. -/
def State.sdoDriven (s : State) (p : Port) : Bool := !s.inReset && (s.link p).selectLow

/-- The log-high condition (R150). -/
def State.logIsHigh (s : State) : Bool := decide (Config.logHigh ≤ s.report.log.length)

/-- The eligible-available count is at or below WAFER-LOW while the map is READY (R13, R202 source 5). -/
def State.waferIsLow (s : State) : Bool :=
  match s.map.phase with
  | .none => false
  | .loading _ => false
  | .ready _ => decide (s.map.eligible ≤ s.settings.waferLow)

/-- The condition a lamp source names (R202). -/
def State.lampSource (s : State) : Nat → Bool
  | 1 => true
  | 2 => s.mode == .run
  | 3 => s.mode == .drain
  | 4 => s.mode == .halt
  | 5 => s.waferIsLow
  | 6 => s.map.waferEmpty
  | 7 => s.logIsHigh
  | 8 => Port.all.any s.isAborted
  | 9 => (s.link .headA).held.isSome
  | 10 => (s.link .headB).held.isSome
  | 11 => s.spoilLatch
  | 12 => (s.link .dispense).held.isSome
  | 13 => !s.report.notices.isEmpty
  | 14 => s.track.phase != .still
  | 15 => decide (0 < s.map.counts.suspect)
  | _ => false

/-- The source field of a lamp configuration, bits 3:0 (R201). -/
def lampSourceField (w : Word) : Nat := (w.extractLsb' 0 4).toNat

/-- The blink field of a lamp configuration, bits 5:4 (R201): 0 steady, 1 slow, 2 fast. -/
def lampBlinkField (w : Word) : Nat := (w.extractLsb' 4 2).toNat

/-- The invert field of a lamp configuration, bit 6 (R201). -/
def lampInvertField (w : Word) : Bool := w.getLsbD 6

/-- The level of a true condition under a blink field at a line time (R201, step 2). -/
def blinkLevel (blink : Nat) (t : Time) : Bool :=
  if blink = 1 then decide (t.toNat % 800 < 400)
  else if blink = 2 then decide (t.toNat % 200 < 100)
  else true

/-- The configuration of LAMPk: settings 35 to 38. -/
def State.lampConfig (s : State) : Fin 4 → Word
  | 0 => s.settings.lamp0
  | 1 => s.settings.lamp1
  | 2 => s.settings.lamp2
  | 3 => s.settings.lamp3

/-- The level of LAMPk as driven (R201); low while the part is held in reset (R204). -/
def State.lampLevel (s : State) (k : Fin 4) : Bool :=
  !s.inReset &&
    ((s.lampSource (lampSourceField (s.lampConfig k)) && blinkLevel (lampBlinkField (s.lampConfig k)) s.lineTime)
      != lampInvertField (s.lampConfig k))

/-- The two bits of one axis (R28): below its minimum, above its maximum. With the minimum above the maximum every value
has both bits set. -/
def axisBits (least greatest z : Int) : Nat :=
  if greatest < least then 3 else bit (decide (z < least)) + bit (decide (greatest < z)) * 2

/-- The axis word of a target (R28): two bits of the X axis, then two of the Y axis. -/
def axisWord (st : Settings) (x y : Int) : Nat :=
  axisBits st.travelXMin st.travelXMax x + axisBits st.travelYMin st.travelYMax y * 4

/-- A target is reachable when it fails none of the four limits (R28). -/
def reachable (st : Settings) (x y : Int) : Bool :=
  decide (st.travelXMin ≤ x) && decide (x ≤ st.travelXMax) && decide (st.travelYMin ≤ y) && decide (y ≤ st.travelYMax)

/-- A cause set as a word: bit c for each cause of code c that is in it (R191). -/
def causeWord (cs : List CauseMark) : Word :=
  cs.foldl (fun w c => w ||| BitVec.ofNat 16 (2 ^ c.cause.code)) 0

/-- The sticky causes of a set, in the same bit form (R196). -/
def stickyWord (cs : List CauseMark) : Word := causeWord (cs.filter CauseMark.sticky)

end Sys2Proof.Machine
end

