-- ==== Sys2Proof/Machine/Coordinate.lean ====
section
/-! DEFINITION. The coordinate unit (02): the die-to-table target (R25 to R27), its reach (R28), the residual check
(R31) and the drift update and clamp (R33, R35). All arithmetic is exact, on integers. -/

namespace Sys2Proof.Machine

open Sys2Proof

/-- Divide by `unit`, rounding half away from zero: the magnitude plus half a unit, divided, with the sign put back
(R26 with unit 256, R33 with unit 16). -/
def divRound (unit : Nat) (z : Int) : Int := z.sign * ((z.natAbs + unit / 2) / unit : Nat)

/-- The scaled sum Sx of the die at a column and row (R25). -/
def scaledX (t : Transform) (column row : Nat) : Int :=
  ((column : Int) - t.c0) * t.dxc + ((row : Int) - t.r0) * t.dxr

/-- The scaled sum Sy of the die at a column and row (R25). -/
def scaledY (t : Transform) (column row : Nat) : Int :=
  ((column : Int) - t.c0) * t.dyc + ((row : Int) - t.r0) * t.dyr

/-- The target coordinate X in counts (R27). -/
def targetX (t : Transform) (d : Drift) (column row : Nat) : Int := t.x0 + divRound 256 (scaledX t column row) + d.dx

/-- The target coordinate Y in counts (R27). -/
def targetY (t : Transform) (d : Drift) (column row : Nat) : Int := t.y0 + divRound 256 (scaledY t column row) + d.dy

/-- Both residuals have a magnitude of at most REJECT-LIMIT, so the verdict is accepted and not OFFSET (R31). -/
def residualAccepted (limit : Nat) (ex ey : Int) : Bool := decide (ex.natAbs ≤ limit) && decide (ey.natAbs ≤ limit)

/-- A drift value brought into the bound of DRIFT-MAX (R33, R35). -/
def clampDrift (bound : Nat) (d : Int) : Int :=
  if (bound : Int) < d then bound else if d < -(bound : Int) then -(bound : Int) else d

/-- One axis of the drift update (R33): the weighted step is added and the sum clamped. -/
def driftStep (st : Settings) (d e : Int) : Int :=
  clampDrift st.driftMax (d + divRound 16 (e * (st.driftWeight : Int)))

/-- The drift update of an accepted presentation (R33). -/
def State.absorb (s : State) (ex ey : Int) : State :=
  { s with drift := ⟨driftStep s.settings s.drift.dx ex, driftStep s.settings s.drift.dy ey⟩ }

/-- Both accumulators set to 0 (R36). -/
def State.zeroDrift (s : State) : State := { s with drift := ⟨0, 0⟩ }

/-- Both accumulators clamped into the stored DRIFT-MAX (R35). -/
def State.clampDrifts (s : State) : State :=
  { s with drift := ⟨clampDrift s.settings.driftMax s.drift.dx, clampDrift s.settings.driftMax s.drift.dy⟩ }

end Sys2Proof.Machine
end

