-- ==== Sys2Proof/Machine/DieMap.lean ====
section
/-! DEFINITION. The die map (01): transitions of die state with their counts, the returned queue and the two latches
(R2, R3, R13 to R15, R20, R21), and the selection of a die for a RESERVE (R16 to R19). -/

namespace Sys2Proof.Machine

open Sys2Proof

def DieCounts.get (c : DieCounts) : DieState → Nat
  | .available => c.available
  | .reserved => c.reserved
  | .staging => c.staging
  | .presented => c.presented
  | .carried => c.carried
  | .placed => c.placed
  | .rejected => c.rejected
  | .suspect => c.suspect
  | .lost => c.lost

def DieCounts.set (c : DieCounts) (d : DieState) (n : Nat) : DieCounts :=
  match d with
  | .available => { c with available := n }
  | .reserved => { c with reserved := n }
  | .staging => { c with staging := n }
  | .presented => { c with presented := n }
  | .carried => { c with carried := n }
  | .placed => { c with placed := n }
  | .rejected => { c with rejected := n }
  | .suspect => { c with suspect := n }
  | .lost => { c with lost := n }

/-- A die moves from one per-state count to another (R3). -/
def DieCounts.move (c : DieCounts) (old new : DieState) : DieCounts :=
  let c := c.set old (c.get old - 1)
  c.set new (c.get new + 1)

/-- The nine counts in state-code order (R11, R156). -/
def DieCounts.toList (c : DieCounts) : List Nat :=
  [c.available, c.reserved, c.staging, c.presented, c.carried, c.placed, c.rejected, c.suspect, c.lost]

/-- Replace the die map. -/
def State.setMap (s : State) (m : DieMap) : State := { s with map := m }

/-- The wafer of a READY map. -/
def State.readyWafer (s : State) : Option WaferInfo :=
  match s.map.phase with
  | .none => none
  | .loading _ => none
  | .ready w => some w

/-- A bin is one of the bins BIN-SET selects (01, Eligibility). -/
def State.binSelected (s : State) (bin : Nat) : Bool := s.settings.binSet.getLsbD bin

/-- A die is eligible when it is AVAILABLE and its bin is selected. -/
def State.dieEligible (s : State) (d : DieRecord) : Bool := d.state == .available && s.binSelected d.bin

/-- The number of eligible die of the table (R8, R13). -/
def State.countEligible (s : State) : Nat := s.map.table.countP s.dieEligible

/-- The evaluation of the wafer-low condition (R20); it is made only while the map is READY. -/
def State.evalWaferLow (s : State) : State :=
  match s.map.phase with
  | .none => s
  | .loading _ => s
  | .ready w =>
    if s.map.eligible ≤ s.settings.waferLow then
      if s.map.waferLow then s
      else
        (s.setMap { s.map with waferLow := true }).notify .waferLow
          [w.wafer, word s.map.eligible, word s.settings.waferLow]
    else s.setMap { s.map with waferLow := false }

/-- A die of the given bin leaves AVAILABLE: the eligible-available count falls when the bin is selected (R13). -/
def State.leaveAvailable (s : State) (bin : Nat) : State :=
  if s.binSelected bin then (s.setMap { s.map with eligible := s.map.eligible - 1 }).evalWaferLow else s

/-- A die enters AVAILABLE: it joins the returned queue, or the rescan flag is set when the queue is full (R15); the
wafer-empty latch is cleared (R21); the eligible-available count rises when its bin is selected (R13). -/
def State.enterAvailable (s : State) (index bin : Nat) : State :=
  let s :=
    if s.map.returned.length < Config.returnedCapacity then
      s.setMap { s.map with returned := s.map.returned ++ [index], waferEmpty := false }
    else s.setMap { s.map with rescan := true, waferEmpty := false }
  if s.binSelected bin then (s.setMap { s.map with eligible := s.map.eligible + 1 }).evalWaferLow else s

/-- A transition of die state (R2), for the die named by wafer id and die index. When that wafer id is not the wafer
id of the READY map the table is unchanged, and the transition is the claim copy's alone. -/
def State.moveDie (s : State) (wafer : Word) (index : Nat) (new : DieState) (cause : Option DieCause)
    (claimant : Option Head) : State :=
  match s.readyWafer with
  | none => s
  | some w =>
    if w.wafer = wafer then
      match s.map.table[index]? with
      | none => s
      | some d =>
        let t := s.setMap { s.map with
          table := s.map.table.set index { d with state := new, cause := cause, claimant := claimant }
          counts := s.map.counts.move d.state new }
        let t := if d.state = .available then t.leaveAvailable d.bin else t
        if new = .available then t.enterAvailable index d.bin else t
    else s

/-- Set the retries used of a die record (R57), when the wafer is the READY map's. -/
def State.setRetries (s : State) (wafer : Word) (index retries : Nat) : State :=
  match s.readyWafer with
  | none => s
  | some w =>
    if w.wafer = wafer then
      match s.map.table[index]? with
      | none => s
      | some d => s.setMap { s.map with table := s.map.table.set index { d with retries := retries } }
    else s

/-! ## Selection (R16 to R19) -/

/-- What the coordinate unit hands the die map for a candidate (R18): its axis word, 0 when it is reachable. -/
def State.candidateAxis (s : State) (w : WaferInfo) (d : DieRecord) : Nat :=
  axisWord s.settings (targetX w.transform s.drift d.column d.row) (targetY w.transform s.drift d.column d.row)

/-- The rejection of an unreachable candidate (R18): the transition, then its notice. -/
def State.rejectUnreachable (s : State) (w : WaferInfo) (index : Nat) (d : DieRecord) : State :=
  (s.moveDie w.wafer index .rejected (some .unreachable) none).notify .unreachable
    [word index, word d.column, word d.row, word (s.candidateAxis w d)]

/-- Try one die (R16, R17, R18): chosen when it is eligible and reachable, rejected when it is eligible and out of
travel, passed over when it is not eligible. -/
def State.tryDie (s : State) (w : WaferInfo) (index : Nat) : Bool × State :=
  match s.map.table[index]? with
  | none => (false, s)
  | some d =>
    if s.dieEligible d then
      if s.candidateAxis w d = 0 then (true, s) else (false, s.rejectUnreachable w index d)
    else (false, s)

/-- The queue phase of a selection (R16) over the entries given, oldest first. -/
def selectQueued (w : WaferInfo) : List Nat → State → Option Nat × State
  | [], s => (none, s)
  | index :: rest, s =>
    match (s.setMap { s.map with returned := rest }).tryDie w index with
    | (true, t) => (some index, t)
    | (false, t) => selectQueued w rest t

/-- The scan of a selection (R17) over at most the number of die given, from the scan cursor on. -/
def selectScan (w : WaferInfo) : Nat → State → Option Nat × State
  | 0, s => (none, s)
  | k + 1, s =>
    match (s.setMap { s.map with cursor := s.map.cursor + 1 }).tryDie w s.map.cursor with
    | (true, t) => (some s.map.cursor, t)
    | (false, t) => selectScan w k t

/-- The scan with its second pass, which the rescan flag grants once (R17). -/
def selectScans (w : WaferInfo) (s : State) : Option Nat × State :=
  match selectScan w (w.dieCount - s.map.cursor) s with
  | (some index, t) => (some index, t)
  | (none, t) =>
    if t.map.rescan then selectScan w w.dieCount (t.setMap { t.map with rescan := false, cursor := 0 })
    else (none, t)

/-- A whole selection: the returned queue, then the scan (R16). -/
def selectDie (w : WaferInfo) (s : State) : Option Nat × State :=
  match selectQueued w s.map.returned s with
  | (some index, t) => (some index, t)
  | (none, t) => selectScans w t

/-- A selection that finds nothing: WAFER-EMPTY and its latch (R21). -/
def State.nothingFound (s : State) (w : WaferInfo) : State :=
  if s.map.waferEmpty then s
  else (s.setMap { s.map with waferEmpty := true }).notify .waferEmpty [w.wafer, word s.map.counts.available]

/-! ## Field checks of MAP-OPEN and MAP-ALIGN (R4, R10) -/

/-- The first entry of a list of (word position, in range) checks that fails. -/
def firstBad : List (Nat × Bool) → Option Nat
  | [] => none
  | (pos, ok) :: rest => if ok then firstBad rest else some pos

/-- A magnitude of at most `m`. -/
def within (m : Nat) (z : Int) : Bool := decide (z.natAbs ≤ m)

/-- The largest magnitude of an origin field, in counts (R4). -/
def originMax : Nat := 8388607

/-- The largest magnitude of a step field, in 1/256 count (R4). -/
def stepMax : Nat := 134217727

/-- The transform fields of a request, from word `i` on, in the order of MAP-OPEN's words 4 to 17. -/
def transformAt (ws : List Word) (i : Nat) : Transform where
  c0 := natAt ws i
  r0 := natAt ws (i + 1)
  x0 := intAt ws (i + 2)
  y0 := intAt ws (i + 4)
  dxc := intAt ws (i + 6)
  dyc := intAt ws (i + 8)
  dxr := intAt ws (i + 10)
  dyr := intAt ws (i + 12)

/-- The range checks of the transform fields that begin at word `i` (R4, R10). -/
def transformChecks (t : Transform) (columns rows i : Nat) : List (Nat × Bool) :=
  [(i, decide (t.c0 < columns)), (i + 1, decide (t.r0 < rows)), (i + 2, within originMax t.x0),
    (i + 4, within originMax t.y0), (i + 6, within stepMax t.dxc), (i + 8, within stepMax t.dyc),
    (i + 10, within stepMax t.dxr), (i + 12, within stepMax t.dyr)]

/-- The wafer a MAP-OPEN describes. -/
def waferOf (ws : List Word) : WaferInfo where
  wafer := wordAt ws 0
  dieCount := natAt ws 1
  columns := natAt ws 2
  rows := natAt ws 3
  transform := transformAt ws 4

/-- The range checks of MAP-OPEN in word order, and after them the check of N against C × Rr, which is reported at
word position 1 (R4). -/
def waferChecks (w : WaferInfo) : List (Nat × Bool) :=
  [(1, decide (1 ≤ w.dieCount) && decide (w.dieCount ≤ 32768)),
    (2, decide (1 ≤ w.columns) && decide (w.columns ≤ 512)),
    (3, decide (1 ≤ w.rows) && decide (w.rows ≤ 512))]
  ++ transformChecks w.transform w.columns w.rows 4
  ++ [(1, decide (w.dieCount ≤ w.columns * w.rows))]

/-! ## Storing die records (R6, R7) -/

/-- One MAP-DIE entry: column in its first word; row in bits 8:0 and bin in bits 15:12 of its second; bits 11:9 of the
second must be zero. -/
structure MapEntry where
  column : Nat
  row : Nat
  bin : Nat
  spare : Nat
  deriving DecidableEq, Repr

/-- The entries of a MAP-DIE, after its start index. -/
def entriesOf : List Word → List MapEntry
  | [] => []
  | [_] => []
  | c :: d :: rest =>
    ⟨c.toNat, (d.extractLsb' 0 9).toNat, (d.extractLsb' 12 4).toNat, (d.extractLsb' 9 3).toNat⟩ :: entriesOf rest

/-- Why an entry is refused (R7), or none when it can be stored. -/
def DieMap.entryRefusal (m : DieMap) (w : WaferInfo) (e : MapEntry) : Option ReplyCode :=
  if m.nextIndex = w.dieCount then some .full
  else if w.columns ≤ e.column ∨ w.rows ≤ e.row ∨ e.spare ≠ 0 then some .badparam
  else if m.bitmap.contains (e.column, e.row) then some .state
  else none

/-- Store one entry (R1, R7): a record AVAILABLE with no retries, its position marked, the AVAILABLE count and the
next index raised. -/
def DieMap.store (m : DieMap) (e : MapEntry) : DieMap :=
  { m with
    table := m.table ++ [⟨e.column, e.row, e.bin, .available, 0, none, none⟩]
    bitmap := (e.column, e.row) :: m.bitmap
    counts := { m.counts with available := m.counts.available + 1 }
    nextIndex := m.nextIndex + 1 }

/-- Store entries in order up to the first refused one (R7): the reply code, the number stored, the map after. -/
def storeEntries (w : WaferInfo) : List MapEntry → DieMap → ReplyCode × Nat × DieMap
  | [], m => (.done, 0, m)
  | e :: rest, m =>
    match m.entryRefusal w e with
    | some code => (code, 0, m)
    | none =>
      let r := storeEntries w rest (m.store e)
      (r.1, r.2.1 + 1, r.2.2)

/-- The map after MAP-OPEN is accepted (R5): the table and the bitmap cleared, LOADING. -/
def DieMap.opened (w : WaferInfo) : DieMap := { DieMap.reset with phase := .loading w }

/-- The map after WAFER-CLOSE (R11): NONE; the latches keep their values, and so do the table and the bitmap, which
nothing can reach until MAP-OPEN clears them. DEDUCED from R8's reply in NONE: the next index reads 0 (log entry 12). -/
def DieMap.closed (m : DieMap) : DieMap :=
  { m with
    phase := .none
    nextIndex := 0
    counts := DieCounts.zero
    eligible := 0
    returned := []
    cursor := 0
    rescan := false }

/-- The map after MAP-ABANDON (R9, R15). -/
def DieMap.abandoned (m : DieMap) : DieMap :=
  { m with phase := .none, nextIndex := 0, counts := DieCounts.zero, returned := [] }

/-- The map after a soft reset (R23): the records and the bitmap are left as they stand, readable by nothing until the
next MAP-OPEN clears them. -/
def DieMap.softReset (m : DieMap) : DieMap := { DieMap.reset with table := m.table, bitmap := m.bitmap }

/-- The transform of a map replaced (R10). -/
def MapPhase.align (p : MapPhase) (t : Transform) : MapPhase :=
  match p with
  | .none => .none
  | .loading w => .loading { w with transform := t }
  | .ready w => .ready { w with transform := t }

end Sys2Proof.Machine
end

