-- ==== Sys2Proof/Machine/Claims.lean ====
section
/-! DEFINITION. The claim unit (03): the claim lists (R39), the log reserve (R43), the selection made for a RESERVE and
its re-evaluation when it is held (R42, R44). -/

namespace Sys2Proof.Machine

open Sys2Proof

/-- The claim list of a head. -/
def State.claimsOf (s : State) (h : Head) : List Claim := s.claims.get h

/-- Replace the claim list of a head. -/
def State.setClaims (s : State) (h : Head) (l : List Claim) : State := { s with claims := s.claims.set h l }

/-- A claim entry names a die index and stands in a claim state. -/
def Claim.isFor (c : Claim) (die : Nat) (st : ClaimState) : Bool := c.die == die && c.state == st

/-- The head's entry with that die index in that state. -/
def State.findClaim (s : State) (h : Head) (die : Nat) (st : ClaimState) : Option Claim :=
  (s.claimsOf h).find? fun c => c.isFor die st

/-- The head's CARRIED entry (R40: at most one). -/
def State.carriedClaim (s : State) (h : Head) : Option Claim :=
  (s.claimsOf h).find? fun c => c.state == .carried

/-- Remove the head's entry with that die index in that state. -/
def State.removeClaim (s : State) (h : Head) (die : Nat) (st : ClaimState) : State :=
  s.setClaims h ((s.claimsOf h).eraseP fun c => c.isFor die st)

/-- Change the head's entry with that die index in one state, in its place (R39). -/
def State.updateClaim (s : State) (h : Head) (die : Nat) (st : ClaimState) (f : Claim → Claim) : State :=
  s.setClaims h ((s.claimsOf h).map fun c => if c.isFor die st then f c else c)

/-- Set the state of the head's entry with that die index (R39). -/
def State.moveClaim (s : State) (h : Head) (die : Nat) (old new : ClaimState) : State :=
  s.updateClaim h die old fun c => { c with state := new }

/-- The open-claim count of a head: its entries in RESERVED, STAGING or PRESENTED (R40). -/
def State.openClaims (s : State) (h : Head) : Nat := (s.claimsOf h).countP fun c => c.state != .carried

/-- The log reserve sum: the log count plus the entries of both claim lists (R43). -/
def State.logSum (s : State) : Nat := s.report.log.length + s.claims.a.length + s.claims.b.length

/-- The log reserve is exhausted (R43). -/
def State.logExhausted (s : State) : Bool := decide (Config.logCapacity ≤ s.logSum)

/-- An answer to a request: its reply code and words. -/
structure Answer where
  code : ReplyCode
  words : List Word
  deriving DecidableEq, Repr

/-- The selection for a RESERVE and the claim unit's part of its outcome (R19, R42): the chosen die is reserved and
its entry appended, or the wafer-empty rule applies. -/
def State.serveReserve (s : State) (h : Head) (w : WaferInfo) : Answer × State :=
  match selectDie w s with
  | (none, t) => (⟨.none, []⟩, t.nothingFound w)
  | (some index, t) =>
    match t.map.table[index]? with
    | none => (⟨.none, []⟩, t)
    | some d =>
      let u := t.moveDie w.wafer index .reserved none (some h)
      (⟨.die, [word index, w.wafer, word d.column, word d.row, word d.bin]⟩,
        u.setClaims h (u.claimsOf h ++ [⟨index, w.wafer, d.column, d.row, d.bin, .reserved, d.retries, s.lineTime⟩]))

/-- Steps 3 to 5 of R42: no answer while the map is not READY or the log reserve is exhausted. -/
def State.tryReserve (s : State) (h : Head) : Option (Answer × State) :=
  match s.readyWafer with
  | none => none
  | some w => if s.logExhausted then none else some (s.serveReserve h w)

/-- The re-evaluation of one head's held RESERVE (R44). -/
def State.wakeReserve (s : State) (h : Head) : State :=
  if s.holds h.port Command.reserve.code then
    match s.tryReserve h with
    | none => s
    | some (ans, t) => t.answerHeld h.port ans.code ans.words
  else s

/-- The line time at which a port's request was held. -/
def State.heldSince (s : State) (p : Port) : Time :=
  match (s.link p).held with
  | none => s.lineTime
  | some h => h.since

/-- Head B's RESERVE is re-evaluated before head A's: it was held at an earlier line time (R44). -/
def State.reserveBFirst (s : State) : Bool :=
  s.holds .headB Command.reserve.code && s.holds .headA Command.reserve.code
    && earlier (s.heldSince .headB) (s.heldSince .headA)

/-- The re-evaluation of the held RESERVE requests (R44): the older first, head A's first at one line time, each
against the state the one before it left. -/
def State.wakeReserves (s : State) : State :=
  if s.reserveBFirst then (s.wakeReserve .B).wakeReserve .A else (s.wakeReserve .A).wakeReserve .B

/-- A claim entry as READ-CLAIMS and CLAIMS report it (R41): nine words. -/
def Claim.toWords (c : Claim) : List Word :=
  [word c.die, c.wafer, word c.column, word c.row, word c.bin, word c.state.die.code, word c.retries]
    ++ words32 c.reserveTime

/-- A claim list as CLAIMS and READ-CLAIMS report it (R41). -/
def State.claimWords (s : State) (h : Head) : List Word :=
  word (s.claimsOf h).length :: (s.claimsOf h).flatMap Claim.toWords

end Sys2Proof.Machine
end

