-- ==== Sys2Proof/Machine/Station.lean ====
section
/-! DEFINITION. The pick station arbiter (03): the station record, order delivery (R53), the grant (R51, R52), and the
withdrawal of the station. -/

namespace Sys2Proof.Machine

open Sys2Proof

/-- Replace the arbiter's state. -/
def State.setArbiter (s : State) (a : Arbiter) : State := { s with arbiter := a }

/-- The station becomes FREE: every field but the state is absent, and neither of its timers runs (R49, R59, R61). -/
def State.freeStation (s : State) (h : Head) : State :=
  s.setArbiter { s.arbiter with
    station := .free
    presentTimer := none
    grantTimer := s.arbiter.grantTimer.set h none }

/-- The words of an ORDER reply (R53). -/
def Order.toWords (o : Order) : List Word := [word o.die, o.wafer] ++ wordsInt o.x ++ wordsInt o.y

/-- The delivery of an ORDERED station to a held AWAIT-ORDER (R53): the station becomes DELIVERED and the presentation
timer starts. -/
def State.deliver (s : State) : State :=
  match s.arbiter.station with
  | .ordered o =>
    if s.holds .table Command.awaitOrder.code then
      (s.setArbiter { s.arbiter with
        station := .delivered o s.lineTime
        presentTimer := some (after s.lineTime s.settings.presentLimit) }).answerHeld .table .order o.toWords
    else s
  | .free => s
  | .delivered _ _ => s
  | .presented _ _ => s

/-- A grant whose die is out of travel (R52): the die is rejected, its entry removed, the notice queued and the PICK
answered; the station stays FREE. -/
def State.grantUnreachable (s : State) (e : Waiter) (w : WaferInfo) (d : DieRecord) : State :=
  (((s.moveDie w.wafer e.die .rejected (some .unreachable) none).removeClaim e.head e.die .reserved).notify .unreachable
    [word e.die, word d.column, word d.row, word (s.candidateAxis w d)]).answerHeld e.head.port .dieRejected
    [word e.die, word DieCause.unreachable.code]

/-- A grant whose die is reachable (R51): the die becomes STAGING and the station ORDERED with the target, and a held
AWAIT-ORDER is answered in the same event. -/
def State.grantReachable (s : State) (e : Waiter) (w : WaferInfo) (d : DieRecord) : State :=
  let t := (s.moveDie w.wafer e.die .staging none (some e.head)).moveClaim e.head e.die .reserved .staging
  (t.setArbiter { t.arbiter with
    station := .ordered
      ⟨e.die, w.wafer, e.head, targetX w.transform s.drift d.column d.row,
        targetY w.transform s.drift d.column d.row⟩ }).deliver

/-- Grant the station to the waiting entries given, oldest first, until one is reachable (R51, R52). -/
def grantEntries : List Waiter → State → State
  | [], s => s.setArbiter { s.arbiter with waiting := [] }
  | e :: rest, s =>
    let s := s.setArbiter { s.arbiter with waiting := rest }
    match s.readyWafer with
    | none => grantEntries rest s
    | some w =>
      match s.map.table[e.die]? with
      | none => grantEntries rest s
      | some d =>
        if s.candidateAxis w d = 0 then s.grantReachable e w d
        else grantEntries rest (s.grantUnreachable e w d)

/-- R51: whenever the station is FREE and the waiting queue is not empty, the oldest entry is granted. -/
def State.applyGrants (s : State) : State :=
  if s.arbiter.station = .free then grantEntries s.arbiter.waiting s else s

/-- What follows a change of the station or the claims in the same event: R51, then the held RESERVE requests, since
claim entries removed in the event free the log reserve (R43, R44, R52; log entry 10). -/
def State.stationWakes (s : State) : State := s.applyGrants.wakeReserves

/-- The words of a DIE-REJECTED, or a DIE-LOST, notice: die index, wafer id, cause code, head code (R152). -/
def dieNotice (die : Nat) (wafer : Word) (cause : DieCause) (h : Head) : List Word :=
  [word die, wafer, word cause.code, word h.code]

/-- A claimed die is rejected (R54, R55, R57): its transition, the entry removed, the DIE-REJECTED notice queued. -/
def State.rejectClaimed (s : State) (h : Head) (die : Nat) (wafer : Word) (st : ClaimState) (cause : DieCause) : State :=
  ((s.moveDie wafer die .rejected (some cause) none).removeClaim h die st).notify .dieRejected
    (dieNotice die wafer cause h)

/-- A claimed die goes back to RESERVED for the same head (R55, R57, R60). -/
def State.returnReserved (s : State) (h : Head) (die : Nat) (wafer : Word) (st : ClaimState) : State :=
  (s.moveDie wafer die .reserved none (some h)).moveClaim h die st .reserved

/-- One waiting entry as READ-STATION reports it (R65). -/
def waiterWords (e : Option Waiter) : List Word :=
  match e with
  | none => [0, 0]
  | some x => [word x.head.code, word x.die]

/-- The fifteen words of READ-STATION (R65). -/
def State.stationWords (s : State) : List Word :=
  let st := s.arbiter.station
  let o := st.order
  [word st.code, word (headCode (o.map Order.head)), word ((o.map Order.die).getD 0), (o.map Order.wafer).getD 0]
    ++ wordsInt ((o.map Order.x).getD 0) ++ wordsInt ((o.map Order.y).getD 0) ++ wordsTime st.handout
    ++ [word s.arbiter.waiting.length] ++ waiterWords s.arbiter.waiting[0]? ++ waiterWords s.arbiter.waiting[1]?

end Sys2Proof.Machine
end

