-- ==== Sys2Proof/Machine/Track.lean ====
section
/-! DEFINITION. The track unit (04): positions and the column ring (R68, R69), finding and changing sites, the drain
test (R79), column exit and entry (R83, R84), the strip queue (R73 to R76). -/

namespace Sys2Proof.Machine

open Sys2Proof

/-- Replace the track unit's state. -/
def State.setTrack (s : State) (t : Track) : State := { s with track := t }

/-- The slot that holds a position: (entry pointer + position) mod 64 (R68). -/
def Track.slot (t : Track) (p : Nat) : Fin 64 := t.entry + Fin.ofNat 64 p

/-- The column at a position in use (R68). -/
def State.columnAt (s : State) (p : Nat) : Option Column :=
  if p < s.settings.trackLength then s.track.ring[s.track.slot p] else none

/-- The site at a place (position, row); none is the state NONE (R69). -/
def State.siteAt (s : State) (p row : Nat) : Option Site :=
  match s.columnAt p with
  | none => none
  | some c => c.sites[row]?

/-- Write the slot of a position. -/
def State.setColumn (s : State) (p : Nat) (c : Option Column) : State :=
  s.setTrack { s.track with ring := s.track.ring.set (s.track.slot p) c }

/-- Write a site record in the column at a position. -/
def State.setSite (s : State) (p row : Nat) (x : Site) : State :=
  match s.columnAt p with
  | none => s
  | some c => s.setColumn p (some { c with sites := c.sites.set row x })

/-- The positions in use, from 0 up. -/
def State.positions (s : State) : List Nat := List.range s.settings.trackLength

/-- The columns on the track, by position from 0 up. -/
def State.columns (s : State) : List Column := s.positions.filterMap s.columnAt

/-- A column is the one with this strip id and strip column. -/
def Column.isNamed (c : Column) (strip : Word) (column : Nat) : Bool := c.strip == strip && c.column == column

/-- The position of the column named by strip id and strip column (R69: at most one). -/
def State.findColumn (s : State) (strip : Word) (column : Nat) : Option Nat :=
  s.positions.find? fun p =>
    match s.columnAt p with
    | none => false
    | some c => c.isNamed strip column

/-- The site named by strip id, strip column and row, with its position. -/
def State.findSite (s : State) (strip : Word) (column row : Nat) : Option (Nat × Site) :=
  match s.findColumn strip column with
  | none => none
  | some p =>
    match s.siteAt p row with
    | none => none
    | some x => some (p, x)

/-- A site is DISPENSING or ASSIGNED: work in progress that holds up an index (R79). -/
def Site.inFlight : Site → Bool
  | .dispensing _ => true
  | .assigned _ _ _ _ => true
  | .absent => false
  | .clean => false
  | .wet _ => false
  | .bonded _ _ _ _ => false
  | .spoiled _ _ => false
  | .skipped => false

/-- A site is ASSIGNED. -/
def Site.isAssigned : Site → Bool
  | .assigned _ _ _ _ => true
  | .absent => false
  | .clean => false
  | .dispensing _ => false
  | .wet _ => false
  | .bonded _ _ _ _ => false
  | .spoiled _ _ => false
  | .skipped => false

/-- A site is DISPENSING. -/
def Site.isDispensing : Site → Bool
  | .dispensing _ => true
  | .absent => false
  | .clean => false
  | .wet _ => false
  | .assigned _ _ _ _ => false
  | .bonded _ _ _ _ => false
  | .spoiled _ _ => false
  | .skipped => false

/-- A site is WET. -/
def Site.isWet : Site → Bool
  | .wet _ => true
  | .absent => false
  | .clean => false
  | .dispensing _ => false
  | .assigned _ _ _ _ => false
  | .bonded _ _ _ _ => false
  | .spoiled _ _ => false
  | .skipped => false

/-- A site counts in the wet count: DISPENSING, WET or ASSIGNED (R91). -/
def Site.countsWet (x : Site) : Bool := x.inFlight || x.isWet

/-- The expiry of a site's pot-life timer, while it runs: WET, or ASSIGNED with its late flag clear (R105). -/
def Site.potExpiry : Site → Option Time
  | .wet st => some st.deadline
  | .assigned st _ _ late => if late then none else some st.deadline
  | .absent => none
  | .clean => none
  | .dispensing _ => none
  | .bonded _ _ _ _ => none
  | .spoiled _ _ => none
  | .skipped => none

/-- The number of sites on the track that meet a test. -/
def State.countSites (s : State) (f : Site → Bool) : Nat :=
  s.columns.foldl (fun n c => n + c.sites.countP f) 0

/-- The number of sites that are DISPENSING or ASSIGNED (R78). -/
def State.inFlight (s : State) : Nat := s.countSites Site.inFlight

/-- The wet count falls by one (R91). -/
def State.dropWet (s : State) : State := { s with dispenser := { s.dispenser with wet := s.dispenser.wet - 1 } }

/-- The number of columns at the last `n` positions in use: those a shift by `n` removes (R79). -/
def State.leavingCount (s : State) (n : Nat) : Nat :=
  (s.positions.filter fun p => decide (s.settings.trackLength - n ≤ p) && (s.columnAt p).isSome).length

/-- The drain test (R79): a DRAINING track with no site in progress becomes MOVING, and INDEX-READY is queued. -/
def State.drainTest (s : State) : State :=
  match s.track.phase with
  | .draining n =>
    if s.inFlight = 0 then
      (s.setTrack { s.track with phase := .moving n }).notify .indexReady [word n, word (s.leavingCount n)]
    else s
  | .still => s
  | .moving _ => s

/-- The words of a SITE-SPOILED notice (R92) or, with a head code last, of a LATE-BOND notice (R127). -/
def siteNotice (strip : Word) (column row position last : Nat) : List Word :=
  [strip, word column, bytePair row position, word last]

/-! ## Column exit and entry -/

/-- The exit conversion of one site (R83). -/
def Site.atExit : Site → Site
  | .clean => .skipped
  | .wet st => .spoiled .exited (some st)
  | .absent => .absent
  | .dispensing t => .dispensing t
  | .assigned st h t l => .assigned st h t l
  | .bonded st l d w => .bonded st l d w
  | .spoiled r st => .spoiled r st
  | .skipped => .skipped

/-- The number of sites of a column with a state code. -/
def Column.countCode (c : Column) (code : Nat) : Nat := c.sites.countP fun x => x.code == code

/-- The words of a COLUMN-EXIT notice (R83), of a column whose sites have had their exit conversions. -/
def Column.exitWords (c : Column) : List Word :=
  [c.strip, word c.column, bytePair (c.countCode 6) (c.countCode 7), bytePair (c.countCode 8) (c.countCode 1)]

/-- The column at a position leaves (R83): conversions, the wet count, its COLUMN-EXIT notice, the slot emptied. An
empty slot converts nothing and queues nothing. -/
def State.removeColumn (s : State) (p : Nat) : State :=
  match s.columnAt p with
  | none => s
  | some c =>
    let out : Column := { c with sites := c.sites.map Site.atExit }
    let t := s.setColumn p none
    ({ t with dispenser := { t.dispenser with wet := t.dispenser.wet - c.sites.countP Site.isWet } }).notify
      .columnExit out.exitWords

/-- The columns at the given positions leave, in the order given. -/
def State.removeColumns (s : State) (ps : List Nat) : State := ps.foldl State.removeColumn s

/-- The last `n` positions in use, from the highest down (R83). -/
def State.leavingPositions (s : State) (n : Nat) : List Nat :=
  (s.positions.filter fun p => decide (s.settings.trackLength - n ≤ p)).reverse

/-- The site records of an entering column (R84): CLEAN where the pad mask has the row's bit, ABSENT where not. -/
def sitesOfMask (rows : Nat) (mask : Byte) : List Site :=
  (List.range rows).map fun r => if mask.getLsbD r then .clean else .absent

/-- Draw the next column from the strip at the head of the queue (R84): the column, and the queue after. -/
def drawColumn (rows : Nat) : List Strip → Option (Column × List Strip)
  | [] => none
  | st :: rest =>
    some (⟨st.id, st.next, sitesOfMask rows (st.masks.getD st.next 0)⟩,
      if st.next + 1 = st.count then rest else { st with next := st.next + 1 } :: rest)

/-- Fill one new position from the strip queue (R84). -/
def State.fillPosition (s : State) (p : Nat) : State :=
  match drawColumn s.settings.rows s.track.strips with
  | none => s
  | some (c, strips) => (s.setColumn p (some c)).setTrack { (s.setColumn p (some c)).track with strips := strips }

/-- Fill the new positions n − 1 down to 0 (R84). -/
def State.fillPositions (s : State) (n : Nat) : State := (List.range n).reverse.foldl State.fillPosition s

/-- The entry pointer moves back by the index amount, modulo 64 (R82). -/
def State.moveEntry (s : State) (n : Nat) : State :=
  s.setTrack { s.track with entry := s.track.entry - Fin.ofNat 64 n }

/-! ## The strip queue -/

/-- A strip id is queued or on the track (R74). -/
def State.stripKnown (s : State) (id : Word) : Bool :=
  s.track.strips.any (fun st => st.id == id) || s.columns.any (fun c => c.strip == id)

/-- The track is clear: no slot holds a column and the strip queue is empty (R88). -/
def State.trackClear (s : State) : Bool := s.columns.isEmpty && s.track.strips.isEmpty

/-- The bits of a mask. -/
def maskBits (m : Byte) : Nat := (List.range 8).countP fun r => m.getLsbD r

/-- Clear pads of one column in a queued strip (R76). -/
def Strip.clearPads (st : Strip) (column : Nat) (mask : Byte) : Strip :=
  { st with masks := st.masks.set column (st.masks.getD column 0 &&& ~~~mask) }

/-- Mark CLEAN sites of named rows ABSENT (R76). -/
def markRows (mask : Byte) (row : Nat) : List Site → List Site
  | [] => []
  | x :: rest => (if mask.getLsbD row && x == .clean then .absent else x) :: markRows mask (row + 1) rest

/-- The number of CLEAN sites of named rows (R76). -/
def countRows (mask : Byte) (row : Nat) : List Site → Nat
  | [] => 0
  | x :: rest => bit (mask.getLsbD row && x == .clean) + countRows mask (row + 1) rest

/-- The words of READ-SITE (R89). -/
def siteWords (c : Option Column) (x : Option Site) : List Word :=
  let code := match x with
    | none => 0
    | some y => y.code
  let reason := match x with
    | some (.spoiled r _) => r.code
    | _ => 0
  let late := match x with
    | some (.assigned _ _ _ l) => l
    | some (.bonded _ l _ _) => l
    | _ => false
  let head := match x with
    | some (.assigned _ h _ _) => h.code
    | _ => 0
  let handout : Option Time := match x with
    | some (.dispensing t) => some t
    | _ => none
  let stamp : Option Stamp := match x with
    | some (.wet st) => some st
    | some (.assigned st _ _ _) => some st
    | some (.bonded st _ _ _) => some st
    | some (.spoiled _ st) => st
    | _ => none
  let since : Option Time := match x with
    | some (.assigned _ _ t _) => some t
    | _ => none
  let die : Nat × Word := match x with
    | some (.bonded _ _ d w) => (d, w)
    | _ => (0, 0)
  [word code, (c.map Column.strip).getD 0, word ((c.map Column.column).getD 0), word reason, word (bit late), word head]
    ++ wordsTime handout ++ wordsTime (stamp.map Stamp.time) ++ wordsTime (stamp.map Stamp.deadline) ++ wordsTime since
    ++ [word die.1, die.2]

end Sys2Proof.Machine
end

