-- ==== Sys2Proof/Machine/Dispense.lean ====
section
/-! DEFINITION. The dispense sequencer (05): traversal (R93, R94), handing out a site and its re-evaluation (R95, R96),
stamping (R99), spoiling with its notice and latch (R92), and the abort disposition's site (R103). -/

namespace Sys2Proof.Machine

open Sys2Proof

/-- Replace the dispense sequencer's state. -/
def State.setDispenser (s : State) (d : Dispenser) : State := { s with dispenser := d }

/-- The positions of the dispense window from DISPENSE-END down to DISPENSE-START (R93). -/
def windowDown (first last : Nat) : List Nat := ((List.range (last + 1)).filter fun p => decide (first ≤ p)).reverse

/-- Lay out the lines of a traversal: every second line is walked backwards when `serpentine` is set (R94). -/
def layLines {α : Type} (serpentine : Bool) : Bool → List (List α) → List α
  | _, [] => []
  | odd, line :: rest => (if serpentine && odd then line.reverse else line) ++ layLines serpentine (!odd) rest

/-- The traversal: every place (position, row) of the dispense window in the order of DISPENSE-ORDER (R93, R94). -/
def traversal (st : Settings) : List (Nat × Nat) :=
  let ps := windowDown st.dispenseStart st.dispenseEnd
  let rows := List.range st.rows
  let rowFirst := st.dispenseOrder.testBit 0
  let serpentine := st.dispenseOrder.testBit 1
  if rowFirst then layLines serpentine false (rows.map fun r => ps.map fun p => (p, r))
  else layLines serpentine false (ps.map fun p => rows.map fun r => (p, r))

/-- The first place in traversal order whose site is CLEAN (R95). -/
def State.firstClean (s : State) : Option (Nat × Nat) :=
  (traversal s.settings).find? fun pr => s.siteAt pr.1 pr.2 == some .clean

/-- Steps 3 to 6 of R95: the place to hand out, or none when the NEXT-SITE is held. -/
def State.nextPlace (s : State) : Option (Nat × Nat) :=
  if s.track.phase = .still then
    if s.settings.wetLimit ≤ s.dispenser.wet then none else s.firstClean
  else none

/-- The hand-out of a place (R95): the site becomes DISPENSING, the reference is recorded, the wet count rises, the
dispense-hold timer starts. With it the words of the SITE reply. -/
def State.handOut (s : State) (p row : Nat) : List Word × State :=
  match s.columnAt p with
  | none => ([], s)
  | some c =>
    ([c.strip, word c.column, word row, word p],
      (s.setSite p row (.dispensing s.lineTime)).setDispenser
        { site := some ⟨c.strip, c.column, row, s.lineTime⟩
          hold := some (after s.lineTime s.settings.dispenseHold)
          wet := s.dispenser.wet + 1 })

/-- The re-evaluation of a held NEXT-SITE (R96). -/
def State.serveNextSite (s : State) : State :=
  if s.holds .dispense Command.nextSite.code then
    match s.nextPlace with
    | none => s
    | some (p, row) => (s.handOut p row).2.answerHeld .dispense .site (s.handOut p row).1
  else s

/-- No site is DISPENSING any more: the reference and handout time are absent and the dispense-hold timer stops. -/
def State.endDispense (s : State) : State := s.setDispenser { s.dispenser with site := none, hold := none }

/-- Set the spoil latch (R203). -/
def State.setSpoil (s : State) : State := { s with spoilLatch := true }

/-- A site spoils (R92, R122, R128, R129): its new record, the wet count, the SITE-SPOILED notice, and the spoil latch
when the reason is EXPIRED. -/
def State.spoil (s : State) (strip : Word) (column row p : Nat) (reason : SpoilReason) (st : Option Stamp) : State :=
  let t := ((s.setSite p row (.spoiled reason st)).dropWet).notify .siteSpoiled
    (siteNotice strip column row p reason.code)
  if reason = .expired then t.setSpoil else t

/-- What a stamp is taken from (R99, R123): the captured time or the arrival time, the entries left in the queue, and
the number of stray entries removed. -/
structure EdgeMatch where
  time : Time
  source : StampSource
  queue : List Time
  strays : Nat
  deriving DecidableEq, Repr

/-- Match a report against a capture queue, oldest entry first (R99, R123): entries earlier than `since` are stray, the
first that is not is consumed, and with none left the arrival time `now` is taken. -/
def matchEdge (since now : Time) : List Time → EdgeMatch
  | [] => ⟨now, .arrival, [], 0⟩
  | t :: rest =>
    if earlier t since then
      let m := matchEdge since now rest
      { m with strays := m.strays + 1 }
    else ⟨t, .capture, rest, 0⟩

/-- Replace the capture line of an input. -/
def State.setCapture (s : State) (i : CaptureInput) (c : CaptureLine) : State := { s with capture := s.capture.set i c }

/-- Take the queue and the stray count that a match leaves (R139, R140). -/
def State.consume (s : State) (i : CaptureInput) (m : EdgeMatch) : State :=
  s.setCapture i { s.capture.get i with queue := m.queue, stray := satAdd (s.capture.get i).stray m.strays }

/-- Empty a capture queue at an abort; the entries are counted nowhere (R103, R130). -/
def State.emptyCapture (s : State) (i : CaptureInput) : State :=
  s.setCapture i { s.capture.get i with queue := [] }

/-- The deadline of a dispense stamp (R100). -/
def deadlineOf (st : Settings) (stamp : Time) : Time := after stamp (10 * st.openTime)

/-- The named site is the site of the dispensing site reference (R98). -/
def DispenseRef.isNamed (d : DispenseRef) (ws : List Word) : Bool :=
  d.strip == wordAt ws 0 && d.column == natAt ws 1 && d.row == natAt ws 2

end Sys2Proof.Machine
end

