-- ==== Sys2Proof/Machine/Placement.lean ====
section
/-! DEFINITION. The placement unit (06): eligibility and choice of a bond site (R113, R115), the serving of the placer
queue (R118), the release of an assigned site (R122), and the wake-ups that follow a change of sites (R79, R96, R119). -/

namespace Sys2Proof.Machine

open Sys2Proof

/-- Replace the placement unit's state. -/
def State.setPlacement (s : State) (p : Placement) : State := { s with placement := p }

/-- The assigned-site record of a head. -/
def State.assignedOf (s : State) (h : Head) : Option Assigned := s.placement.assigned.get h

/-- The distance of two positions. -/
def distance (p q : Nat) : Nat := (p - q) + (q - p)

/-- Condition 4 of R113: a site keeps clear of the other head's assigned site. -/
def State.keepsClear (s : State) (h : Head) (p row : Nat) : Bool :=
  match s.assignedOf h.other with
  | none => true
  | some a => !(a.position == p && a.row == row) && decide (s.settings.keepOut ≤ distance p a.position)

/-- The deadline of the site at a place, when it is eligible for a head now (R113). -/
def State.eligibleDeadline (s : State) (h : Head) (p row : Nat) : Option Time :=
  match s.siteAt p row with
  | some (.wet st) =>
    if s.settings.bondStart ≤ p && p ≤ s.settings.bondEnd
        && decide ((s.settings.placeLead : Int) ≤ signedDiff st.deadline s.lineTime) && s.keepsClear h p row then
      some st.deadline
    else none
  | _ => none

/-- The places of the bond window, higher positions first and lower rows first: the order in which ties are won (R115). -/
def bondPlaces (st : Settings) : List (Nat × Nat) :=
  (windowDown st.bondStart st.bondEnd).flatMap fun p => (List.range st.rows).map fun r => (p, r)

/-- A place with the deadline of its site. -/
structure Candidate where
  position : Nat
  row : Nat
  deadline : Time
  deriving DecidableEq, Repr

/-- The sites eligible for a head, in the order of `bondPlaces`. -/
def State.candidates (s : State) (h : Head) : List Candidate :=
  (bondPlaces s.settings).filterMap fun pr =>
    match s.eligibleDeadline h pr.1 pr.2 with
    | none => none
    | some d => some ⟨pr.1, pr.2, d⟩

/-- The first candidate of the earliest deadline (R115). -/
def earliest : List Candidate → Option Candidate
  | [] => none
  | c :: rest =>
    match earliest rest with
    | none => some c
    | some d => if earlier d.deadline c.deadline then some d else some c

/-- The site chosen for a head (R115). -/
def State.chosenSite (s : State) (h : Head) : Option Candidate := earliest (s.candidates h)

/-- Remove a head's placer-queue entry (R117). -/
def State.removePlacer (s : State) (h : Head) : State :=
  s.setPlacement { s.placement with queue := s.placement.queue.filter fun e => e.head != h }

/-- The assignment of a chosen site to a placer (R118): the site becomes ASSIGNED, the record is written, the
place-hold timer starts, the entry leaves the queue and the PLACE is answered SITE. -/
def State.assign (s : State) (e : Placer) (c : Candidate) : State :=
  match s.columnAt c.position, s.siteAt c.position c.row with
  | some col, some (.wet st) =>
    let t := (s.setSite c.position c.row (.assigned st e.head s.lineTime false)).removePlacer e.head
    (t.setPlacement { t.placement with
      assigned := t.placement.assigned.set e.head
        (some ⟨col.strip, col.column, c.row, c.position, e.die, e.wafer, s.lineTime⟩)
      hold := t.placement.hold.set e.head (some (after s.lineTime s.settings.placeHold)) }).answerHeld e.head.port .site
      ([col.strip, word col.column, word c.row, word c.position] ++ words32 (st.deadline - s.lineTime))
  | _, _ => s

/-- Serve the placers given, oldest first (R118). -/
def servePlacerList : List Placer → State → State
  | [], s => s
  | e :: rest, s =>
    match s.chosenSite e.head with
    | none => servePlacerList rest s
    | some c => servePlacerList rest (s.assign e c)

/-- The serving of the placer queue: only while the track is STILL (R118). -/
def State.servePlacers (s : State) : State :=
  if s.track.phase = .still then servePlacerList s.placement.queue s else s

/-- What follows a change of sites in the same event: the drain test (R79), the held NEXT-SITE (R96) and the held PLACE
requests (R119), in this order (log entry 10). -/
def State.siteWakes (s : State) : State := s.drainTest.serveNextSite.servePlacers

/-- The head's assignment ends: its record is absent and its place-hold timer stopped (R110, R120). -/
def State.endAssignment (s : State) (h : Head) : State :=
  s.setPlacement { s.placement with
    assigned := s.placement.assigned.set h none
    hold := s.placement.hold.set h none }

/-- The release of a head's assigned site (R122), if it has one: to WET with its late flag clear, to SPOILED with
reason EXPIRED with it set. The wake-ups are the caller's. -/
def State.releaseSite (s : State) (h : Head) : State :=
  match s.assignedOf h with
  | none => s
  | some a =>
    match s.siteAt a.position a.row with
    | some (.assigned st _ _ late) =>
      if late then (s.endAssignment h).spoil a.strip a.column a.row a.position .expired (some st)
      else (s.endAssignment h).setSite a.position a.row (.wet st)
    | _ => s.endAssignment h

/-- The named site is the site of the assigned-site record (R123, R128). -/
def Assigned.isNamed (a : Assigned) (ws : List Word) : Bool :=
  a.strip == wordAt ws 0 && a.column == natAt ws 1 && a.row == natAt ws 2

end Sys2Proof.Machine
end

