-- ==== Sys2Proof/Machine/SettingsTable.lean ====
section
/-! DEFINITION. The settings table (09): reading and storing a setting by its id, the ranges, the write conditions, and
the clamping of configuration words (R169, R170). -/

namespace Sys2Proof.Machine

open Sys2Proof

/-- The stored value of a setting by its id, as a signed number (R170). -/
def Settings.get (t : Settings) : Nat → Int
  | 1 => t.travelXMin
  | 2 => t.travelXMax
  | 3 => t.travelYMin
  | 4 => t.travelYMax
  | 5 => t.rejectLimit
  | 6 => t.driftWeight
  | 7 => t.driftMax
  | 8 => t.pickRetries
  | 9 => t.lookahead
  | 10 => t.grantHold
  | 11 => t.presentLimit
  | 12 => t.reserveWait
  | 13 => t.placeWait
  | 14 => t.siteWait
  | 15 => t.placeHold
  | 16 => t.dispenseHold
  | 17 => t.openTime
  | 18 => t.placeLead
  | 19 => t.wetLimit
  | 20 => t.keepOut
  | 21 => t.trackLength
  | 22 => t.rows
  | 23 => t.dispenseStart
  | 24 => t.dispenseEnd
  | 25 => t.bondStart
  | 26 => t.bondEnd
  | 27 => t.dispenseOrder
  | 28 => t.binSet.toNat
  | 29 => t.waferLow
  | 30 => t.attn.cell.toNat
  | 31 => t.attn.headA.toNat
  | 32 => t.attn.headB.toNat
  | 33 => t.attn.table.toNat
  | 34 => t.attn.dispense.toNat
  | 35 => t.lamp0.toNat
  | 36 => t.lamp1.toNat
  | 37 => t.lamp2.toNat
  | 38 => t.lamp3.toNat
  | _ => 0

/-- Store a value, already in range, under a setting's id. -/
def Settings.put (t : Settings) (id : Nat) (v : Int) : Settings :=
  match id with
  | 1 => { t with travelXMin := v }
  | 2 => { t with travelXMax := v }
  | 3 => { t with travelYMin := v }
  | 4 => { t with travelYMax := v }
  | 5 => { t with rejectLimit := v.toNat }
  | 6 => { t with driftWeight := v.toNat }
  | 7 => { t with driftMax := v.toNat }
  | 8 => { t with pickRetries := v.toNat }
  | 9 => { t with lookahead := v.toNat }
  | 10 => { t with grantHold := v.toNat }
  | 11 => { t with presentLimit := v.toNat }
  | 12 => { t with reserveWait := v.toNat }
  | 13 => { t with placeWait := v.toNat }
  | 14 => { t with siteWait := v.toNat }
  | 15 => { t with placeHold := v.toNat }
  | 16 => { t with dispenseHold := v.toNat }
  | 17 => { t with openTime := v.toNat }
  | 18 => { t with placeLead := v.toNat }
  | 19 => { t with wetLimit := v.toNat }
  | 20 => { t with keepOut := v.toNat }
  | 21 => { t with trackLength := v.toNat }
  | 22 => { t with rows := v.toNat }
  | 23 => { t with dispenseStart := v.toNat }
  | 24 => { t with dispenseEnd := v.toNat }
  | 25 => { t with bondStart := v.toNat }
  | 26 => { t with bondEnd := v.toNat }
  | 27 => { t with dispenseOrder := v.toNat }
  | 28 => { t with binSet := wordInt v }
  | 29 => { t with waferLow := v.toNat }
  | 30 => { t with attn := { t.attn with cell := wordInt v } }
  | 31 => { t with attn := { t.attn with headA := wordInt v } }
  | 32 => { t with attn := { t.attn with headB := wordInt v } }
  | 33 => { t with attn := { t.attn with table := wordInt v } }
  | 34 => { t with attn := { t.attn with dispense := wordInt v } }
  | 35 => { t with lamp0 := wordInt v }
  | 36 => { t with lamp1 := wordInt v }
  | 37 => { t with lamp2 := wordInt v }
  | 38 => { t with lamp3 := wordInt v }
  | _ => t

/-- The range of a numeric setting, ids 1 to 29 (09, settings table). -/
def settingRange : Nat → Int × Int
  | 1 => (-2000000, 2000000)
  | 2 => (-2000000, 2000000)
  | 3 => (-2000000, 2000000)
  | 4 => (-2000000, 2000000)
  | 5 => (0, 4095)
  | 6 => (0, 16)
  | 7 => (0, 2047)
  | 8 => (0, 3)
  | 9 => (1, 2)
  | 10 => (5, 1000)
  | 11 => (5, 2000)
  | 12 => (0, 10000)
  | 13 => (0, 10000)
  | 14 => (0, 10000)
  | 15 => (10, 5000)
  | 16 => (10, 5000)
  | 17 => (1, 65535)
  | 18 => (0, 5000)
  | 19 => (1, 64)
  | 20 => (0, 7)
  | 21 => (8, 64)
  | 22 => (1, 8)
  | 23 => (0, 63)
  | 24 => (0, 63)
  | 25 => (0, 63)
  | 26 => (0, 63)
  | 27 => (0, 3)
  | 28 => (0, 65535)
  | 29 => (0, 32767)
  | _ => (0, 65535)

/-- A value moved to the nearest bound of a range. -/
def clampTo (lo hi v : Int) : Int := if v < lo then lo else if hi < v then hi else v

/-- The geometry settings (R88): writable with the track clear. -/
def isGeometry (id : Nat) : Bool := id == 17 || id == 19 || (decide (21 ≤ id) && decide (id ≤ 27))

/-- The settings whose write condition requires SETUP (09, settings table): ids 1 to 4, 7, 9 to 11, 15, 16, 20, and the
geometry settings. -/
def needsSetup (id : Nat) : Bool :=
  decide (id ≤ 4) || id == 7 || (decide (9 ≤ id) && decide (id ≤ 11)) || id == 15 || id == 16 || id == 20 || isGeometry id

/-- The configuration settings, ids 30 to 38. -/
def isConfig (id : Nat) : Bool := decide (30 ≤ id)

/-- The attention configurations, ids 30 to 34. -/
def isAttn (id : Nat) : Bool := decide (30 ≤ id) && decide (id ≤ 34)

/-- The bits of a configuration word that its setting does not use: above bit 4 for ATTN, above bit 6 for LAMP (R169). -/
def configMask (id : Nat) : Nat := if isAttn id then 32 else 128

/-- The check of a configuration value (R169, step 4): within 0..65535 with every unused bit 0. -/
def configOk (id : Nat) (v : Int) : Bool := decide (0 ≤ v) && decide (v < (configMask id : Int))

/-- A configuration value with each field at its nearest bound (R169): the ATTN level within 1..8, the LAMP blink
within 0..2. -/
def clampConfig (id : Nat) (v : Int) : Int :=
  let n := v.toNat
  if isAttn id then ((n / 16 * 16 + max 1 (min 8 (n % 16)) : Nat) : Int)
  else ((n / 64 * 64 + min 2 (n / 16 % 4) * 16 + n % 16 : Nat) : Int)

/-- The value a write of a setting stores (R169). -/
def storedValue (id : Nat) (v : Int) : Int :=
  if isConfig id then clampConfig id v else clampTo (settingRange id).1 (settingRange id).2 v

/-- Replace the settings table. -/
def State.setSettings (s : State) (t : Settings) : State := { s with settings := t }

/-- The effects of a write of BIN-SET (R14): the rescan flag, the wafer-empty latch, and while the map is READY the
recount and the wafer-low evaluation. -/
def State.binSetWritten (s : State) : State :=
  let t := s.setMap { s.map with rescan := true, waferEmpty := false }
  match t.map.phase with
  | .none => t
  | .loading _ => t
  | .ready _ => (t.setMap { t.map with eligible := t.countEligible }).evalWaferLow

/-- The effects of an accepted write, by setting (R169): BIN-SET (R14), DRIFT-MAX (R35), WAFER-LOW (R20), PLACE-LEAD
(R119). Every other setting is read at the event that uses it. -/
def State.settingWritten (s : State) (id : Nat) : State :=
  if id = 28 then s.binSetWritten
  else if id = 7 then s.clampDrifts
  else if id = 29 then s.evalWaferLow
  else if id = 18 then s.servePlacers
  else s

/-- The refusal of a SET of a valid id, in the order of R169, or none when the write is accepted. -/
def State.setRefusal (s : State) (id : Nat) (v : Int) : Option ReplyCode :=
  if needsSetup id && s.mode != .setup then some .mode
  else if isGeometry id && !s.trackClear then some .state
  else if isConfig id && !configOk id v then some .badparam
  else none

end Sys2Proof.Machine
end

