-- ==== Sys2Proof/Machine/Report.lean ====
section
/-! DEFINITION. The report unit (08): bond records and their layout (R147), READ-LOG and READ-NOTICES (R148, R154), the
three status pages (R156 to R158), and PORT-STATUS (R185). -/

namespace Sys2Proof.Machine

open Sys2Proof

/-- Replace the report unit's state. -/
def State.setReport (s : State) (r : ReportUnit) : State := { s with report := r }

/-- A bond record as READ-LOG gives it: fifteen words (R147). -/
def BondRecord.toWords (b : BondRecord) : List Word :=
  words32 b.seq
    ++ [b.wafer, word b.die, word (b.bin % 16 * 4096 + b.dieColumn % 512), word (b.dieRow % 512), b.strip,
      bytePair b.stripColumn b.position,
      word (b.row % 8 + b.head.code * 16 + bit b.late * 256 + b.retries % 4 * 1024 + b.stampSource.code * 4096
        + b.bondSource.code * 8192)]
    ++ words32 b.stamp ++ words32 b.bondTime ++ words32 b.margin

/-- A notice as READ-NOTICES gives it: seven words (R154). -/
def Notice.toWords (n : Notice) : List Word :=
  [bytePair n.data.length n.kind.code] ++ words32 n.time
    ++ [wordAt n.data 0, wordAt n.data 1, wordAt n.data 2, wordAt n.data 3]

/-- Append a bond record with the next sequence number (R146). -/
def State.appendRecord (s : State) (b : BondRecord) : State :=
  s.setReport { s.report with
    log := s.report.log ++ [{ b with seq := s.report.nextSeq }]
    nextSeq := s.report.nextSeq + 1 }

/-- Remove the `k` oldest notices; then, if notices were dropped, queue NOTICES-DROPPED and clear the count (R153, R154). -/
def State.removeNotices (s : State) (k : Nat) : State :=
  let left := s.report.notices.drop k
  s.setReport { s.report with
    notices :=
      if 0 < s.report.dropped then left ++ [⟨.noticesDropped, s.lineTime, [word s.report.dropped]⟩] else left
    dropped := 0 }

/-- Page 0 of READ-STATUS: the line, the wafer and the report unit (R156). -/
def State.page0 (s : State) : List Word :=
  [word s.mode.code] ++ words32 s.lineTime
    ++ [word s.map.phase.code, (s.map.phase.info.map WaferInfo.wafer).getD 0,
      word ((s.map.phase.info.map WaferInfo.dieCount).getD 0), word s.map.nextIndex]
    ++ s.map.counts.toList.map word
    ++ [word s.map.eligible, word s.map.returned.length, word s.map.cursor,
      word (bit s.map.rescan + bit s.map.waferLow * 2 + bit s.map.waferEmpty * 4),
      wordInt s.drift.dx, wordInt s.drift.dy, word s.report.log.length, word s.logSum]
    ++ words32 s.report.nextSeq ++ [word s.report.notices.length, word s.report.dropped]

/-- The head code of a placer entry, 0 when absent. -/
def placerHead (e : Option Placer) : Nat := headCode (e.map Placer.head)

/-- The five words of a head's assigned site on page 1 (R157). -/
def State.assignedWords (s : State) (h : Head) : List Word :=
  (match s.assignedOf h with
    | none => [0, 0, 0]
    | some a => [a.strip, bytePair a.column a.row, word a.position])
    ++ wordsTime (s.placement.hold.get h)

/-- The grant timer of the head the station names (R157). -/
def State.stationGrant (s : State) : Option Time :=
  match s.arbiter.station.order with
  | none => none
  | some o => s.arbiter.grantTimer.get o.head

/-- Page 1 of READ-STATUS: the track, the dispenser, the placement unit and the station timers (R157). -/
def State.page1 (s : State) : List Word :=
  let d := s.dispenser.site
  [word s.track.phase.code, word s.track.phase.amount, word s.track.entry.val, word s.columns.length,
    word s.track.strips.length, word s.dispenser.wet,
    word (bit d.isSome + bit (s.assignedOf .A).isSome * 2 + bit (s.assignedOf .B).isSome * 4
      + bit s.arbiter.presentTimer.isSome * 8 + bit s.stationGrant.isSome * 16),
    word (s.placement.queue.length + placerHead s.placement.queue[0]? * 16 + placerHead s.placement.queue[1]? * 256),
    (d.map DispenseRef.strip).getD 0, bytePair ((d.map DispenseRef.column).getD 0) ((d.map DispenseRef.row).getD 0)]
    ++ wordsTime (d.map DispenseRef.handout) ++ wordsTime s.dispenser.hold
    ++ s.assignedWords .A ++ s.assignedWords .B
    ++ wordsTime s.arbiter.presentTimer ++ wordsTime s.stationGrant
    ++ [word ((s.placement.queue[0]?.map Placer.die).getD 0), word ((s.placement.queue[1]?.map Placer.die).getD 0)]

/-- A port's word on page 2 (R158): request count in bits 11:8, the status byte it would shift out now in bits 7:0. -/
def State.portWord (s : State) (p : Port) : Word := bytePair (s.link p).requests.length (s.statusByte p).toNat

/-- Page 2 of READ-STATUS: the capture unit, the ports and the lamps (R158). -/
def State.page2 (s : State) : List Word :=
  [word s.capture.shot.queue.length, word s.capture.tda.queue.length, word s.capture.tdb.queue.length,
    word s.capture.shot.stray, word s.capture.tda.stray, word s.capture.tdb.stray,
    word s.capture.shot.lost, word s.capture.tda.lost, word s.capture.tdb.lost]
    ++ Port.all.map s.portWord
    ++ [word (bit (s.headEnabled.get .A) + bit (s.headEnabled.get .B) * 2),
      word (bit (s.lampLevel 0) + bit (s.lampLevel 1) * 2 + bit (s.lampLevel 2) * 4 + bit (s.lampLevel 3) * 8
        + bit s.spoilLatch * 16)]
    ++ Port.all.map fun p => word (s.link p).lostFrames

/-- The ten words of PORT-STATUS (R185). -/
def State.portStatusWords (s : State) (p : Port) : List Word :=
  let l := s.link p
  [bytePair l.requests.length l.replies.length,
    (match l.held with
      | none => 0
      | some h => bytePair h.request.code.toNat h.request.tag.toNat),
    word ((s.statusByte p).toNat + bit (s.attn p) * 256)]
    ++ wordsTime (l.held.bind Held.expiry)
    ++ [word l.lostFrames, causeWord l.causes, word l.flushed]
    ++ wordsTime l.firstCause

end Sys2Proof.Machine
end

