-- ==== Sys2Proof/Machine/Aborts.lean ====
section
/-! DEFINITION. Port aborts (11): a cause reaching a port, the entry into abort (R192), the added cause (R193), the
dispositions of the blocks (R60, R62, R103, R130, R197), and the marking of causes as not sticky. -/

namespace Sys2Proof.Machine

open Sys2Proof

/-! ## Dispositions -/

/-- One claim entry's part of a head abort (R62). RESERVED and STAGING die return to AVAILABLE, a STAGING die's station
is withdrawn; a PRESENTED die becomes SUSPECT with its notice and the station is freed; a CARRIED die stays. -/
def State.disposeClaim (h : Head) (s : State) (c : Claim) : State :=
  match c.state with
  | .reserved => (s.removeClaim h c.die .reserved).moveDie c.wafer c.die .available none none
  | .staging => ((s.removeClaim h c.die .staging).moveDie c.wafer c.die .available none none).freeStation h
  | .presented =>
    (((s.removeClaim h c.die .presented).moveDie c.wafer c.die .suspect none none).freeStation h).notify .dieSuspect
      [word c.die, c.wafer, word h.code]
  | .carried => s

/-- Remove a head's waiting-queue entry (R62). -/
def State.removeWaiter (s : State) (h : Head) : State :=
  s.setArbiter { s.arbiter with waiting := s.arbiter.waiting.filter fun e => e.head != h }

/-- The claim unit's and the arbiter's part of a head abort (R62): the waiting entry, then the entries oldest first.
The wake-ups follow when every entry has been disposed of (log entry 11). -/
def State.disposeClaims (s : State) (h : Head) : State :=
  ((s.removeWaiter h).claimsOf h).foldl (State.disposeClaim h) (s.removeWaiter h)

/-- The placement unit's part of a head abort (R130): the placer entry, the assigned site, the touchdown queue. -/
def State.disposePlacement (s : State) (h : Head) : State :=
  ((s.removePlacer h).releaseSite h).emptyCapture h.touchdown

/-- The dispositions of a head port's entry into abort (R197), with the wake-ups that follow them in the event. -/
def State.disposeHead (s : State) (h : Head) : State :=
  ((s.disposeClaims h).disposePlacement h).siteWakes.stationWakes

/-- The disposition of the table port's entry into abort (R60): a DELIVERED station is freed, its die returns to
RESERVED and its PICK is answered FAULT with reason 2. -/
def State.disposeTable (s : State) : State :=
  match s.arbiter.station with
  | .delivered o _ =>
    (((s.returnReserved o.head o.die o.wafer .staging).freeStation o.head).answerHeld o.head.port .fault
      [word o.die, 2]).stationWakes
  | .free => s
  | .ordered _ => s
  | .presented _ _ => s

/-- The disposition of the dispense port's entry into abort (R103): a DISPENSING site becomes SPOILED with reason
DISPENSE-LOST; the shot queue is emptied in any case. -/
def State.disposeDispense (s : State) : State :=
  match s.dispenser.site with
  | none => s.emptyCapture .shot
  | some d =>
    match s.findColumn d.strip d.column with
    | none => s.endDispense.emptyCapture .shot
    | some p =>
      ((s.spoil d.strip d.column d.row p .dispenseLost none).endDispense.emptyCapture .shot).siteWakes

/-- The dispositions of a port's entry into abort (R197); the cell port has none. -/
def State.dispose (s : State) : Port → State
  | .cell => s
  | .headA => s.disposeHead .A
  | .headB => s.disposeHead .B
  | .table => s.disposeTable
  | .dispense => s.disposeDispense

/-! ## Entry and added causes -/

/-- Put a cause in a cause set (R193): added, or marked sticky if it is there already and now sticky. -/
def addCause (cs : List CauseMark) (c : AbortCause) (sticky : Bool) : List CauseMark :=
  if cs.any fun m => m.cause == c then
    cs.map fun m => if m.cause == c then { m with sticky := m.sticky || sticky } else m
  else cs ++ [⟨c, sticky⟩]

/-- Flush a port's request queue (R192, step 1). -/
def Link.flush (l : Link) : Link := { l with requests := [], flushed := min 255 (l.flushed + l.requests.length) }

/-- Entry into abort (R192): flush, answer the held request ABORTED, record the cause, queue PORT-ABORTED, and apply
the dispositions. -/
def State.enterAbort (s : State) (p : Port) (c : AbortCause) (sticky : Bool) : State :=
  let s := s.setLink p (s.link p).flush
  let s := s.answerHeld p .aborted []
  let s := s.setLink p { s.link p with causes := [⟨c, sticky⟩], firstCause := some s.lineTime }
  (s.notify .portAborted [word p.number, word c.code]).dispose p

/-- A cause reaches a port (R192, R193): full entry when it is not aborted, an added cause when it is. -/
def State.causeReaches (s : State) (p : Port) (c : AbortCause) (sticky : Bool) : State :=
  if s.isAborted p then s.setLink p { s.link p with causes := addCause (s.link p).causes c sticky }
  else s.enterAbort p c sticky

/-- A cause becomes not sticky and stays in the set (R193). -/
def Link.unstick (c : AbortCause) (l : Link) : Link :=
  { l with causes := l.causes.map fun m => if m.cause == c then { m with sticky := false } else m }

/-- The ports HALT aborts (R165). -/
def haltPorts : List Port := [.headA, .headB, .table, .dispense]

/-- HALT asks one port to enter abort with LINE-HALT (R165): a port already aborted gains the sticky cause at once
(R166), any other port's entry is an event still to be taken (log entry 6). -/
def State.requestHalt (s : State) (p : Port) : State :=
  if s.isAborted p then s.causeReaches p .lineHalt true
  else s.setLink p { s.link p with haltEntries := (s.link p).haltEntries + 1 }

/-- LINE-HALT becomes not sticky on ports 1 to 4 as the line leaves HALT (R166). -/
def State.unstickHalt (s : State) : State :=
  haltPorts.foldl (fun t p => t.setLink p ((t.link p).unstick .lineHalt)) s

end Sys2Proof.Machine
end

