-- ==== Sys2Proof/Machine/HeadRequests.lean ====
section
/-! DEFINITION. What the claim unit, the arbiter and the placement unit do with a head-port request once its port has
taken it (03, 06): word count, code word, availability (R168), then the checks of the request's own rule. -/

namespace Sys2Proof.Machine

open Sys2Proof

/-- The line mode is RUN or DRAIN (R168). -/
def State.working (s : State) : Bool := s.mode == .run || s.mode == .drain

/-- Start the wait timer of a port's held request (R142). -/
def State.startWait (s : State) (p : Port) (t : Time) : State :=
  match (s.link p).held with
  | none => s
  | some h => s.setLink p { s.link p with held := some { h with expiry := some t } }

/-- RESERVE taken (R42, R45). -/
def takeReserve (h : Head) (r : Request) (s : State) : State :=
  if r.words.length ≠ 0 then s.reply h.port r.tag .badparam []
  else if s.mode ≠ .run then s.reply h.port r.tag .mode []
  else if s.settings.lookahead ≤ s.openClaims h then s.reply h.port r.tag .full []
  else
    match s.tryReserve h with
    | some (ans, t) => t.reply h.port r.tag ans.code ans.words
    | none =>
      if s.settings.reserveWait = 0 then s.reply h.port r.tag .timeout []
      else s.hold h.port r (some (after s.lineTime s.settings.reserveWait))

/-- RELEASE taken (R47). -/
def takeRelease (h : Head) (r : Request) (s : State) : State :=
  if r.words.length ≠ 1 then s.reply h.port r.tag .badparam []
  else if !s.working then s.reply h.port r.tag .mode []
  else
    match s.findClaim h (natAt r.words 0) .reserved with
    | none => s.reply h.port r.tag .state []
    | some c =>
      (((s.removeClaim h c.die .reserved).moveDie c.wafer c.die .available none none).reply h.port r.tag .done []).wakeReserves

/-- The state and cause a DISCARD gives its die (R48). -/
def discardOutcome (disposition : Word) : DieState × DieCause :=
  if disposition = 0 then (.lost, .dropped) else (.rejected, .dumped)

/-- The notice a DISCARD queues (R48). -/
def discardNotice (disposition : Word) : NoticeKind := if disposition = 0 then .dieLost else .dieRejected

/-- DISCARD taken (R48). -/
def takeDiscard (h : Head) (r : Request) (s : State) : State :=
  if r.words.length ≠ 2 then s.reply h.port r.tag .badparam []
  else if 1 < natAt r.words 1 then s.reply h.port r.tag .badparam []
  else if !s.working then s.reply h.port r.tag .mode []
  else
    match s.findClaim h (natAt r.words 0) .carried with
    | none => s.reply h.port r.tag .state []
    | some c =>
      let out := discardOutcome (wordAt r.words 1)
      let s := (s.removeClaim h c.die .carried).moveDie c.wafer c.die out.1 (some out.2) none
      let s := s.notify (discardNotice (wordAt r.words 1)) (dieNotice c.die c.wafer out.2 h)
      (((s.releaseSite h).reply h.port r.tag .done [word out.1.code]).siteWakes).wakeReserves

/-- The head has an entry that keeps it from the station (R50): CARRIED, STAGING or PRESENTED. -/
def State.pickBlocked (s : State) (h : Head) : Bool := (s.claimsOf h).any fun c => c.state != .reserved

/-- PICK taken (R50): held, queued, and granted in the same event when the station is FREE. -/
def takePick (h : Head) (r : Request) (s : State) : State :=
  if r.words.length ≠ 1 then s.reply h.port r.tag .badparam []
  else if !s.working then s.reply h.port r.tag .mode []
  else
    match s.findClaim h (natAt r.words 0) .reserved with
    | none => s.reply h.port r.tag .state []
    | some c =>
      if s.pickBlocked h then s.reply h.port r.tag .state []
      else
        let s := s.hold h.port r none
        (s.setArbiter { s.arbiter with waiting := s.arbiter.waiting ++ [⟨h, c.die⟩] }).stationWakes

/-- PICKED taken (R56). -/
def takePicked (h : Head) (r : Request) (s : State) : State :=
  if r.words.length ≠ 1 then s.reply h.port r.tag .badparam []
  else if !s.working then s.reply h.port r.tag .mode []
  else
    match s.findClaim h (natAt r.words 0) .presented with
    | none => s.reply h.port r.tag .state []
    | some c =>
      let s := (s.moveDie c.wafer c.die .carried none (some h)).moveClaim h c.die .presented .carried
      ((s.freeStation h).reply h.port r.tag .done []).stationWakes

/-- A NOT-LIFTED within PICK-RETRIES (R57): retries used rise by one and the die returns to RESERVED. -/
def State.retryPick (s : State) (h : Head) (c : Claim) : State :=
  ((s.setRetries c.wafer c.die (c.retries + 1)).updateClaim h c.die .presented
    fun x => { x with retries := x.retries + 1 }).returnReserved h c.die c.wafer .presented

/-- PICK-FAIL taken (R57). -/
def takePickFail (h : Head) (r : Request) (s : State) : State :=
  if r.words.length ≠ 2 then s.reply h.port r.tag .badparam []
  else if 1 < natAt r.words 1 then s.reply h.port r.tag .badparam []
  else if !s.working then s.reply h.port r.tag .mode []
  else
    match s.findClaim h (natAt r.words 0) .presented with
    | none => s.reply h.port r.tag .state []
    | some c =>
      if natAt r.words 1 = 1 then
        (((s.rejectClaimed h c.die c.wafer .presented .damaged).freeStation h).reply h.port r.tag .done
          [word DieState.rejected.code, word c.retries]).stationWakes
      else if c.retries < s.settings.pickRetries then
        (((s.retryPick h c).freeStation h).reply h.port r.tag .done
          [word DieState.reserved.code, word (c.retries + 1)]).stationWakes
      else
        ((((s.setRetries c.wafer c.die (min 3 (c.retries + 1))).rejectClaimed h c.die c.wafer .presented
            .pickFailed).freeStation h).reply h.port r.tag .done
          [word DieState.rejected.code, word (min 3 (c.retries + 1))]).stationWakes

/-- PLACE taken (R116): held and queued, served in the same event when a site is eligible. -/
def takePlace (h : Head) (r : Request) (s : State) : State :=
  if r.words.length ≠ 1 then s.reply h.port r.tag .badparam []
  else if !s.working then s.reply h.port r.tag .mode []
  else
    match s.findClaim h (natAt r.words 0) .carried with
    | none => s.reply h.port r.tag .state []
    | some c =>
      if (s.assignedOf h).isSome then s.reply h.port r.tag .state []
      else
        let s := s.hold h.port r none
        let s := (s.setPlacement { s.placement with
          queue := s.placement.queue ++ [⟨h, c.die, c.wafer⟩] }).servePlacers
        if s.holds h.port Command.place.code then
          if s.settings.placeWait = 0 then (s.removePlacer h).answerHeld h.port .timeout []
          else s.startWait h.port (after s.lineTime s.settings.placeWait)
        else s

/-- The bond record that the placement unit hands to the report unit (R125). -/
def bondRecord (h : Head) (a : Assigned) (c : Claim) (st : Stamp) (late : Bool) (m : EdgeMatch) : BondRecord where
  seq := 0
  wafer := a.wafer
  die := a.die
  dieColumn := c.column
  dieRow := c.row
  bin := c.bin
  retries := c.retries
  strip := a.strip
  stripColumn := a.column
  row := a.row
  position := a.position
  head := h
  late := late
  stamp := st.time
  stampSource := st.source
  bondTime := m.time
  bondSource := m.source
  margin := st.deadline - m.time

/-- The completion of a bond, once its bond time is matched (R124, steps 1 to 6). -/
def State.completeBond (s : State) (h : Head) (a : Assigned) (c : Claim) (st : Stamp) (late : Bool) (m : EdgeMatch) :
    State :=
  let s := (s.setSite a.position a.row (.bonded st late a.die a.wafer)).dropWet
  let s := (s.moveDie a.wafer a.die .placed none none).removeClaim h c.die .carried
  let s := (s.endAssignment h).appendRecord (bondRecord h a c st late m)
  if late then s.notify .lateBond (siteNotice a.strip a.column a.row a.position h.code) else s

/-- BONDED taken (R123, R124). -/
def takeBonded (h : Head) (r : Request) (s : State) : State :=
  if r.words.length ≠ 3 then s.reply h.port r.tag .badparam []
  else if !s.working then s.reply h.port r.tag .mode []
  else
    match s.assignedOf h with
    | none => s.reply h.port r.tag .state []
    | some a =>
      if a.isNamed r.words then
        match s.siteAt a.position a.row, s.carriedClaim h with
        | some (.assigned st _ _ late), some c =>
          let m := matchEdge a.since s.lineTime (s.capture.get h.touchdown).queue
          (((s.consume h.touchdown m).completeBond h a c st late m).reply h.port r.tag .done
            (words32 s.report.nextSeq)).siteWakes
        | _, _ => s.reply h.port r.tag .state []
      else s.reply h.port r.tag .state []

/-- BOND-FAIL MISPLACED (R128): the site spoils, the die is rejected, and both notices are queued. -/
def State.misplace (s : State) (h : Head) (a : Assigned) (st : Stamp) : State :=
  let s := (s.moveDie a.wafer a.die .rejected (some .misplaced) none).removeClaim h a.die .carried
  ((s.endAssignment h).spoil a.strip a.column a.row a.position .misplaced (some st)).notify .dieRejected
    (dieNotice a.die a.wafer .misplaced h)

/-- BOND-FAIL taken (R128). -/
def takeBondFail (h : Head) (r : Request) (s : State) : State :=
  if r.words.length ≠ 4 then s.reply h.port r.tag .badparam []
  else if 1 < natAt r.words 3 then s.reply h.port r.tag .badparam []
  else if !s.working then s.reply h.port r.tag .mode []
  else
    match s.assignedOf h with
    | none => s.reply h.port r.tag .state []
    | some a =>
      if a.isNamed r.words then
        match s.siteAt a.position a.row with
        | some (.assigned st _ _ late) =>
          if natAt r.words 3 = 0 then
            ((s.releaseSite h).reply h.port r.tag .done
              [if late then 7 else 4, word DieState.carried.code]).siteWakes
          else
            (((s.misplace h a st).reply h.port r.tag .done [7, word DieState.rejected.code]).siteWakes).wakeReserves
        | _ => s.reply h.port r.tag .state []
      else s.reply h.port r.tag .state []

/-- CLAIMS taken (R41). -/
def takeClaims (h : Head) (r : Request) (s : State) : State :=
  if r.words.length ≠ 0 then s.reply h.port r.tag .badparam []
  else s.reply h.port r.tag .done (s.claimWords h)

end Sys2Proof.Machine
end

