-- ==== Sys2Proof/Machine/TableRequests.lean ====
section
/-! DEFINITION. What the arbiter does with a table-port request (03), and the dispense sequencer with a dispense-port
request (05), once the port has taken it. -/

namespace Sys2Proof.Machine

open Sys2Proof

/-- The line mode is SETUP, RUN or DRAIN (R168). -/
def State.tableOpen (s : State) : Bool := s.mode == .setup || s.mode == .run || s.mode == .drain

/-- AWAIT-ORDER taken (R53): held, and delivered in the same event when the station is ORDERED. -/
def takeAwaitOrder (r : Request) (s : State) : State :=
  if r.words.length ≠ 0 then s.reply .table r.tag .badparam []
  else if !s.tableOpen then s.reply .table r.tag .mode []
  else (s.hold .table r none).deliver

/-- What a DELIVERED station names, when its die is the one given (R54, R55). -/
def State.deliveredFor (s : State) (die : Nat) : Option (Order × Time) :=
  match s.arbiter.station with
  | .delivered o t => if o.die = die then some (o, t) else none
  | .free => none
  | .ordered _ => none
  | .presented _ _ => none

/-- A presentation rejected OFFSET (R54). -/
def State.presentOffset (s : State) (o : Order) : State :=
  (((s.rejectClaimed o.head o.die o.wafer .staging .offset).freeStation o.head).answerHeld o.head.port .dieRejected
    [word o.die, word DieCause.offset.code])

/-- A presentation accepted (R54): the die and the station become PRESENTED, the PICK is answered GO, the grant timer
starts. -/
def State.presentAccepted (s : State) (o : Order) (handout : Time) (ex ey : Int) : State :=
  let s := ((s.absorb ex ey).moveDie o.wafer o.die .presented none (some o.head)).moveClaim o.head o.die .staging .presented
  (s.setArbiter { s.arbiter with
    station := .presented o handout
    presentTimer := none
    grantTimer := s.arbiter.grantTimer.set o.head (some (after s.lineTime s.settings.grantHold)) }).answerHeld
    o.head.port .go [word o.die, wordInt ex, wordInt ey]

/-- PRESENTED taken (R54). -/
def takePresented (r : Request) (s : State) : State :=
  if r.words.length ≠ 3 then s.reply .table r.tag .badparam []
  else if !s.tableOpen then s.reply .table r.tag .mode []
  else
    match s.deliveredFor (natAt r.words 0) with
    | none => s.reply .table r.tag .stale []
    | some (o, handout) =>
      let ex := (wordAt r.words 1).toInt
      let ey := (wordAt r.words 2).toInt
      if residualAccepted s.settings.rejectLimit ex ey then
        (s.presentAccepted o handout ex ey).reply .table r.tag .done [0]
      else ((s.presentOffset o).reply .table r.tag .done [1]).stationWakes

/-- PRESENT-FAIL NOT-FOUND (R55). -/
def State.presentNotFound (s : State) (o : Order) : State :=
  (((s.rejectClaimed o.head o.die o.wafer .staging .notFound).freeStation o.head).answerHeld o.head.port .dieRejected
    [word o.die, word DieCause.notFound.code])

/-- PRESENT-FAIL MOTION (R55). -/
def State.presentMotion (s : State) (o : Order) : State :=
  (((s.returnReserved o.head o.die o.wafer .staging).freeStation o.head).answerHeld o.head.port .fault
    [word o.die, 1])

/-- PRESENT-FAIL taken (R55). -/
def takePresentFail (r : Request) (s : State) : State :=
  if r.words.length ≠ 2 then s.reply .table r.tag .badparam []
  else if 1 < natAt r.words 1 then s.reply .table r.tag .badparam []
  else if !s.tableOpen then s.reply .table r.tag .mode []
  else
    match s.deliveredFor (natAt r.words 0) with
    | none => s.reply .table r.tag .stale []
    | some (o, _) =>
      if natAt r.words 1 = 0 then ((s.presentNotFound o).reply .table r.tag .done []).stationWakes
      else ((s.presentMotion o).reply .table r.tag .done []).stationWakes

/-- NEXT-SITE taken (R95). -/
def takeNextSite (r : Request) (s : State) : State :=
  if r.words.length ≠ 0 then s.reply .dispense r.tag .badparam []
  else if s.mode ≠ .run then s.reply .dispense r.tag .mode []
  else if s.dispenser.site.isSome then s.reply .dispense r.tag .state []
  else
    match s.nextPlace with
    | some (p, row) => (s.handOut p row).2.reply .dispense r.tag .site (s.handOut p row).1
    | none =>
      if s.settings.siteWait = 0 then s.reply .dispense r.tag .timeout []
      else s.hold .dispense r (some (after s.lineTime s.settings.siteWait))

/-- The completion of a dispense, once it is stamped (R100): WET with a deadline later than now, else SPOILED EXPIRED. -/
def State.completeDispense (s : State) (d : DispenseRef) (p : Nat) (st : Stamp) : State :=
  if later st.deadline s.lineTime then (s.setSite p d.row (.wet st)).endDispense
  else (s.spoil d.strip d.column d.row p .expired (some st)).endDispense

/-- DISPENSED taken (R98 to R100). -/
def takeDispensed (r : Request) (s : State) : State :=
  if r.words.length ≠ 3 then s.reply .dispense r.tag .badparam []
  else if !s.working then s.reply .dispense r.tag .mode []
  else
    match s.dispenser.site with
    | none => s.reply .dispense r.tag .state []
    | some d =>
      if d.isNamed r.words then
        match s.findColumn d.strip d.column with
        | none => s.reply .dispense r.tag .state []
        | some p =>
          let m := matchEdge d.handout s.lineTime s.capture.shot.queue
          let st : Stamp := ⟨m.time, m.source, deadlineOf s.settings m.time⟩
          (((s.consume .shot m).completeDispense d p st).reply .dispense r.tag .done
            ([if later st.deadline s.lineTime then 4 else 7, word m.source.code] ++ words32 st.deadline)).siteWakes
      else s.reply .dispense r.tag .state []

/-- DISPENSE-FAIL taken (R101). -/
def takeDispenseFail (r : Request) (s : State) : State :=
  if r.words.length ≠ 4 then s.reply .dispense r.tag .badparam []
  else if 1 < natAt r.words 3 then s.reply .dispense r.tag .badparam []
  else if !s.working then s.reply .dispense r.tag .mode []
  else
    match s.dispenser.site with
    | none => s.reply .dispense r.tag .state []
    | some d =>
      if d.isNamed r.words then
        match s.findColumn d.strip d.column with
        | none => s.reply .dispense r.tag .state []
        | some p =>
          if natAt r.words 3 = 0 then
            (((s.setSite p d.row .skipped).dropWet.endDispense).reply .dispense r.tag .done [8]).siteWakes
          else
            (((s.spoil d.strip d.column d.row p .short none).endDispense).reply .dispense r.tag .done [7]).siteWakes
      else s.reply .dispense r.tag .state []

end Sys2Proof.Machine
end

