-- ==== Sys2Proof/Machine/MapRequests.lean ====
section
/-! DEFINITION. What the die map does with a cell-port request once the port has taken it (01): map loading,
realignment, wafer close, suspect die, and reading a die record. -/

namespace Sys2Proof.Machine

open Sys2Proof

/-- A claim list holds an entry of this wafer id (R4). -/
def State.waferClaimed (s : State) (wafer : Word) : Bool :=
  s.claims.a.any (fun c => c.wafer == wafer) || s.claims.b.any fun c => c.wafer == wafer

/-- MAP-OPEN taken (R4, R5). -/
def takeMapOpen (r : Request) (s : State) : State :=
  if r.words.length ≠ 18 then s.reply .cell r.tag .badparam []
  else if s.map.phase ≠ .none then s.reply .cell r.tag .state []
  else if s.waferClaimed (wordAt r.words 0) then s.reply .cell r.tag .state []
  else
    match firstBad (waferChecks (waferOf r.words)) with
    | some pos => s.reply .cell r.tag .badparam [word pos]
    | none => ((s.setMap (DieMap.opened (waferOf r.words))).zeroDrift).reply .cell r.tag .done []

/-- A MAP-DIE carries a start index and 1 to 11 entries of two words (R6). -/
def mapDieFits (n : Nat) : Bool := n % 2 == 1 && decide (3 ≤ n) && decide (n ≤ 23)

/-- MAP-DIE taken (R6, R7). Every reply carries the next index and the number of entries stored. -/
def takeMapDie (r : Request) (s : State) : State :=
  if !mapDieFits r.words.length then s.reply .cell r.tag .badparam [word s.map.nextIndex, 0]
  else
    match s.map.phase with
    | .none => s.reply .cell r.tag .state [word s.map.nextIndex, 0]
    | .ready _ => s.reply .cell r.tag .state [word s.map.nextIndex, 0]
    | .loading w =>
      if natAt r.words 0 ≠ s.map.nextIndex then s.reply .cell r.tag .badparam [word s.map.nextIndex, 0]
      else
        let res := storeEntries w (entriesOf r.words.tail) s.map
        (s.setMap res.2.2).reply .cell r.tag res.1 [word res.2.2.nextIndex, word res.2.1]

/-- The map as MAP-CLOSE leaves it (R8), before the wafer-low evaluation. -/
def State.closeMap (s : State) (w : WaferInfo) : State :=
  s.setMap { s.map with phase := .ready w, cursor := 0, rescan := false, returned := [], eligible := s.countEligible }

/-- MAP-CLOSE taken (R8): with every die stored the map becomes READY, the wafer-low condition is evaluated, and the
held RESERVE requests are re-evaluated. -/
def takeMapClose (r : Request) (s : State) : State :=
  if r.words.length ≠ 0 then s.reply .cell r.tag .badparam []
  else
    match s.map.phase with
    | .none => s.reply .cell r.tag .state [0, 0]
    | .ready w => s.reply .cell r.tag .state [word s.map.nextIndex, word w.dieCount]
    | .loading w =>
      if s.map.nextIndex < w.dieCount then s.reply .cell r.tag .state [word s.map.nextIndex, word w.dieCount]
      else
        (((s.closeMap w).evalWaferLow).reply .cell r.tag .done [word s.countEligible]).wakeReserves

/-- MAP-ABANDON taken (R9). -/
def takeMapAbandon (r : Request) (s : State) : State :=
  if r.words.length ≠ 0 then s.reply .cell r.tag .badparam []
  else
    match s.map.phase with
    | .none => s.reply .cell r.tag .state []
    | .ready _ => s.reply .cell r.tag .state []
    | .loading _ => (s.setMap s.map.abandoned).reply .cell r.tag .done [word s.map.nextIndex]

/-- MAP-ALIGN taken (R10). -/
def takeMapAlign (r : Request) (s : State) : State :=
  if r.words.length ≠ 14 then s.reply .cell r.tag .badparam []
  else
    match s.readyWafer with
    | none => s.reply .cell r.tag .state []
    | some w =>
      if s.arbiter.station ≠ .free then s.reply .cell r.tag .state []
      else
        match firstBad (transformChecks (transformAt r.words 0) w.columns w.rows 0) with
        | some pos => s.reply .cell r.tag .badparam [word pos]
        | none =>
          ((s.setMap { s.map with phase := s.map.phase.align (transformAt r.words 0) }).zeroDrift).reply .cell r.tag
            .done []

/-- A die of the wafer is reserved, being staged or on the station (R11). -/
def DieCounts.busy (c : DieCounts) : Bool :=
  decide (0 < c.reserved) || decide (0 < c.staging) || decide (0 < c.presented)

/-- WAFER-CLOSE taken (R11): the notice, then the map NONE, then the reply with the counts as they stood. -/
def takeWaferClose (r : Request) (s : State) : State :=
  if r.words.length ≠ 0 then s.reply .cell r.tag .badparam []
  else
    match s.readyWafer with
    | none => s.reply .cell r.tag .state []
    | some w =>
      if s.map.counts.busy then s.reply .cell r.tag .state []
      else
        let t := s.notify .waferClosed
          [w.wafer, word s.map.counts.placed, word s.map.counts.available, word s.map.counts.suspect]
        (t.setMap t.map.closed).reply .cell r.tag .done (w.wafer :: s.map.counts.toList.map word)

/-- RESOLVE taken (R22). -/
def takeResolve (r : Request) (s : State) : State :=
  if r.words.length ≠ 2 then s.reply .cell r.tag .badparam []
  else
    match s.readyWafer with
    | none => s.reply .cell r.tag .state []
    | some w =>
      if w.dieCount ≤ natAt r.words 0 ∨ 1 < natAt r.words 1 then s.reply .cell r.tag .badparam []
      else
        match s.map.table[natAt r.words 0]? with
        | none => s.reply .cell r.tag .badparam []
        | some d =>
          if d.state ≠ .suspect then s.reply .cell r.tag .state []
          else if natAt r.words 1 = 0 then
            (s.moveDie w.wafer (natAt r.words 0) .available none none).reply .cell r.tag .done
              [word DieState.available.code]
          else
            (s.moveDie w.wafer (natAt r.words 0) .rejected (some .resolved) none).reply .cell r.tag .done
              [word DieState.rejected.code]

/-- The nine words of READ-DIE (R12). -/
def dieWords (index : Nat) (wafer : Word) (d : DieRecord) : List Word :=
  [word index, wafer, word d.column, word d.row, word d.bin, word d.state.code, word d.retries,
    word ((d.cause.map DieCause.code).getD 0), word (headCode d.claimant)]

/-- READ-DIE taken (R12). -/
def takeReadDie (r : Request) (s : State) : State :=
  if r.words.length ≠ 1 then s.reply .cell r.tag .badparam []
  else
    match s.map.phase.info with
    | none => s.reply .cell r.tag .state []
    | some w =>
      if s.map.nextIndex ≤ natAt r.words 0 then s.reply .cell r.tag .badparam []
      else
        match s.map.table[natAt r.words 0]? with
        | none => s.reply .cell r.tag .badparam []
        | some d => s.reply .cell r.tag .done (dieWords (natAt r.words 0) w.wafer d)

end Sys2Proof.Machine
end

