-- ==== Sys2Proof/Machine/TrackRequests.lean ====
section
/-! DEFINITION. What the track unit does with a cell-port request once the port has taken it (04): the strip queue,
bad pads, the index protocol, clearing the track, and reading a site. -/

namespace Sys2Proof.Machine

open Sys2Proof

/-- The range checks of STRIP-LOAD (R74, step 1). -/
def stripChecks (ws : List Word) : List (Nat × Bool) :=
  [(1, decide (1 ≤ natAt ws 1) && decide (natAt ws 1 ≤ 64)), (2, decide (natAt ws 2 < 256))]

/-- A strip as STRIP-LOAD gives it (R74): next column 0 and the same mask for every column. -/
def stripOf (ws : List Word) : Strip where
  id := wordAt ws 0
  count := natAt ws 1
  next := 0
  masks := List.replicate (natAt ws 1) ((wordAt ws 2).extractLsb' 0 8)

/-- STRIP-LOAD taken (R74). -/
def takeStripLoad (r : Request) (s : State) : State :=
  if r.words.length ≠ 3 then s.reply .cell r.tag .badparam []
  else
    match firstBad (stripChecks r.words) with
    | some pos => s.reply .cell r.tag .badparam [word pos]
    | none =>
      if s.stripKnown (wordAt r.words 0) then s.reply .cell r.tag .state []
      else if Config.stripCapacity ≤ s.track.strips.length then s.reply .cell r.tag .full []
      else
        (s.setTrack { s.track with strips := s.track.strips ++ [stripOf r.words] }).reply .cell r.tag .done
          [word (s.track.strips.length + 1)]

/-- The queued strip with this id. -/
def State.queuedStrip (s : State) (id : Word) : Option Strip := s.track.strips.find? fun st => st.id == id

/-- The on-track case of STRIP-BAD (R76): CLEAN sites of the named rows become ABSENT, and a count above zero is
reported to the dispense sequencer. -/
def State.badOnTrack (s : State) (p : Nat) (c : Column) (mask : Byte) : State :=
  let t := s.setColumn p (some { c with sites := markRows mask 0 c.sites })
  if countRows mask 0 c.sites = 0 then t else t.serveNextSite

/-- The queued case of STRIP-BAD (R76): the bits of the column's pad mask are cleared. -/
def State.badInQueue (s : State) (id : Word) (column : Nat) (mask : Byte) : State :=
  s.setTrack { s.track with
    strips := s.track.strips.map fun st => if st.id == id then st.clearPads column mask else st }

/-- STRIP-BAD taken (R75, R76). -/
def takeStripBad (r : Request) (s : State) : State :=
  let id := wordAt r.words 0
  let column := natAt r.words 1
  let mask : Byte := (wordAt r.words 2).extractLsb' 0 8
  if r.words.length ≠ 3 then s.reply .cell r.tag .badparam []
  else if 256 ≤ natAt r.words 2 ∨ 64 ≤ column then s.reply .cell r.tag .badparam []
  else
    match s.findColumn id column with
    | some p =>
      match s.columnAt p with
      | none => s.reply .cell r.tag .state []
      | some c => (s.badOnTrack p c mask).reply .cell r.tag .done [word (countRows mask 0 c.sites)]
    | none =>
      match s.queuedStrip id with
      | none => s.reply .cell r.tag .state []
      | some st =>
        if st.count ≤ column then s.reply .cell r.tag .badparam []
        else if column < st.next then s.reply .cell r.tag .state []
        else
          (s.badInQueue id column mask).reply .cell r.tag .done [word (maskBits (st.masks.getD column 0 &&& mask))]

/-- The track emptied (R87): every column leaves from the highest position down, the strip queue is emptied, the entry
pointer is 0, and the removal is reported to the dispense sequencer. -/
def State.clearTrack (s : State) : State :=
  let t := s.removeColumns s.positions.reverse
  (t.setTrack { t.track with strips := [], entry := 0 }).serveNextSite

/-- TRACK-CLEAR taken (R87). -/
def takeTrackClear (r : Request) (s : State) : State :=
  if r.words.length ≠ 0 then s.reply .cell r.tag .badparam []
  else if s.mode ≠ .setup then s.reply .cell r.tag .mode []
  else if s.track.phase ≠ .still then s.reply .cell r.tag .state [word s.track.phase.code]
  else s.clearTrack.reply .cell r.tag .done [word s.columns.length, word s.track.strips.length]

/-- INDEX-REQUEST taken (R78): the reply counts the sites in progress, and the drain test follows. -/
def takeIndexRequest (r : Request) (s : State) : State :=
  let n := natAt r.words 0
  if r.words.length ≠ 1 then s.reply .cell r.tag .badparam []
  else if s.mode = .halt then s.reply .cell r.tag .mode []
  else if n < 1 ∨ 8 < n then s.reply .cell r.tag .badparam []
  else if s.track.phase ≠ .still then s.reply .cell r.tag .state [word s.track.phase.code]
  else ((s.setTrack { s.track with phase := .draining n }).reply .cell r.tag .done [word s.inFlight]).drainTest

/-- The return of the track to STILL, with its reports to the dispense sequencer and the placement unit (R80, R85). -/
def State.becomeStill (s : State) : State :=
  ((s.setTrack { s.track with phase := .still }).serveNextSite).servePlacers

/-- Steps 1 to 3 of the shift (R82): columns leave, the entry pointer moves, new positions are filled. -/
def State.shift (s : State) (n : Nat) : State := ((s.removeColumns (s.leavingPositions n)).moveEntry n).fillPositions n

/-- The number of the first `n` positions that hold a column. -/
def State.filledCount (s : State) (n : Nat) : Nat := ((List.range n).filter fun p => (s.columnAt p).isSome).length

/-- INDEX-DONE taken (R82 to R85). -/
def takeIndexDone (r : Request) (s : State) : State :=
  if r.words.length ≠ 0 then s.reply .cell r.tag .badparam []
  else
    match s.track.phase with
    | .still => s.reply .cell r.tag .state [word s.track.phase.code]
    | .draining _ => s.reply .cell r.tag .state [word s.track.phase.code]
    | .moving n =>
      ((s.shift n).reply .cell r.tag .done
        [word (s.leavingCount n), word ((s.shift n).filledCount n), word (n - (s.shift n).filledCount n),
          word (s.shift n).track.entry.val]).becomeStill

/-- INDEX-CANCEL taken (R80). -/
def takeIndexCancel (r : Request) (s : State) : State :=
  if r.words.length ≠ 0 then s.reply .cell r.tag .badparam []
  else
    match s.track.phase with
    | .still => s.reply .cell r.tag .state [word s.track.phase.code]
    | .moving _ => s.reply .cell r.tag .state [word s.track.phase.code]
    | .draining _ => (s.reply .cell r.tag .done []).becomeStill

/-- READ-SITE taken (R89). -/
def takeReadSite (r : Request) (s : State) : State :=
  let p := natAt r.words 0
  let row := natAt r.words 1
  if r.words.length ≠ 2 then s.reply .cell r.tag .badparam []
  else if s.settings.trackLength ≤ p ∨ 7 < row then s.reply .cell r.tag .badparam []
  else s.reply .cell r.tag .done (siteWords (s.columnAt p) (s.siteAt p row))

end Sys2Proof.Machine
end

