-- ==== Sys2Proof/Machine/ModeRequests.lean ====
section
/-! DEFINITION. What the mode controller does with a cell-port request once the port has taken it (09): SET, GET, and
the changes of line mode with what leaving RUN, entering HALT and leaving HALT bring. -/

namespace Sys2Proof.Machine

open Sys2Proof

/-- A setting id is 1..38 (R169, R170). -/
def settingKnown (id : Nat) : Bool := decide (1 ≤ id) && decide (id ≤ 38)

/-- An accepted write (R169): the value is stored, and the setting's effects follow. -/
def State.writeSetting (s : State) (id : Nat) (v : Int) : State :=
  (s.setSettings (s.settings.put id (storedValue id v))).settingWritten id

/-- SET taken (R169). -/
def takeSet (r : Request) (s : State) : State :=
  let id := natAt r.words 0
  let v := intAt r.words 1
  if r.words.length ≠ 3 then s.reply .cell r.tag .badparam []
  else if !settingKnown id then s.reply .cell r.tag .badparam []
  else
    match s.setRefusal id v with
    | some code => s.reply .cell r.tag code []
    | none =>
      (s.writeSetting id v).reply .cell r.tag (if storedValue id v = v then .done else .clamped)
        (wordsInt (storedValue id v))

/-- GET taken (R170). -/
def takeGet (r : Request) (s : State) : State :=
  let id := natAt r.words 0
  if r.words.length ≠ 1 then s.reply .cell r.tag .badparam []
  else if !settingKnown id then s.reply .cell r.tag .badparam []
  else s.reply .cell r.tag .done (wordsInt (s.settings.get id))

/-! ## Line modes -/

/-- The mode controller requests both leaving-RUN reports (R164). -/
def State.leaveRun (s : State) : State :=
  { s with reports := ⟨s.reports.claimUnit + 1, s.reports.dispenseSequencer + 1⟩ }

/-- The window checks of START, in the order of their ids (R163). -/
def windowChecks (st : Settings) : List (Nat × Bool) :=
  [(23, decide (st.dispenseStart ≤ st.dispenseEnd) && decide (st.dispenseStart < st.trackLength)),
    (24, decide (st.dispenseEnd < st.trackLength)),
    (25, decide (st.bondStart ≤ st.bondEnd) && decide (st.bondStart < st.trackLength)),
    (26, decide (st.bondEnd < st.trackLength))]

/-- Change the line mode, with what leaving RUN and leaving HALT bring (R164, R166). -/
def State.changeMode (s : State) (m : LineMode) : State :=
  let t := { s with mode := m }
  match s.mode with
  | .run => t.leaveRun
  | .halt => t.unstickHalt
  | .init => t
  | .setup => t
  | .drain => t

/-- The reply to a mode-change request: MODE with the mode that stands (R162). -/
def State.refuseMode (s : State) (r : Request) : State := s.reply .cell r.tag .mode [word s.mode.code]

/-- Accept a mode-change request: the mode changes, and the reply names the mode entered (R162). -/
def State.enterMode (s : State) (r : Request) (m : LineMode) : State :=
  (s.changeMode m).reply .cell r.tag .done [word m.code]

/-- START taken (R163). -/
def takeStart (r : Request) (s : State) : State :=
  if r.words.length ≠ 0 then s.reply .cell r.tag .badparam []
  else if s.mode ≠ .setup then s.refuseMode r
  else
    match firstBad (windowChecks s.settings) with
    | some id => s.reply .cell r.tag .badparam [word id]
    | none => s.enterMode r .run

/-- DRAIN taken (R162). -/
def takeDrain (r : Request) (s : State) : State :=
  if r.words.length ≠ 0 then s.reply .cell r.tag .badparam []
  else if s.mode = .run ∨ s.mode = .halt then s.enterMode r .drain
  else s.refuseMode r

/-- RESUME taken (R162). -/
def takeResume (r : Request) (s : State) : State :=
  if r.words.length ≠ 0 then s.reply .cell r.tag .badparam []
  else if s.mode = .drain ∨ s.mode = .halt then s.enterMode r .run
  else s.refuseMode r

/-- The entries into abort that HALT asks for, on ports 1 to 4 (R165). -/
def State.requestHalts (s : State) : State := haltPorts.foldl State.requestHalt s

/-- HALT taken (R162, R165). -/
def takeHalt (r : Request) (s : State) : State :=
  if r.words.length ≠ 0 then s.reply .cell r.tag .badparam []
  else if s.mode = .run ∨ s.mode = .drain then ((s.changeMode .halt).requestHalts).reply .cell r.tag .done [word LineMode.halt.code]
  else s.refuseMode r

/-- The failing conditions of STOP, bit 0 to bit 5 (R167). -/
def State.stopBusy (s : State) : Nat :=
  bit (!s.claims.a.isEmpty) + bit (!s.claims.b.isEmpty) * 2 + bit (s.arbiter.station != .free) * 4
    + bit (decide (0 < s.countSites Site.isDispensing)) * 8 + bit (decide (0 < s.countSites Site.isAssigned)) * 16
    + bit (s.track.phase != .still) * 32

/-- STOP taken (R167). -/
def takeStop (r : Request) (s : State) : State :=
  if r.words.length ≠ 0 then s.reply .cell r.tag .badparam []
  else if s.mode = .run ∨ s.mode = .drain ∨ s.mode = .halt then
    if s.stopBusy = 0 then s.enterMode r .setup else s.reply .cell r.tag .busy [word s.stopBusy]
  else s.refuseMode r

end Sys2Proof.Machine
end

