-- ==== Sys2Proof/Machine/ReportRequests.lean ====
section
/-! DEFINITION. What the report unit, the claim unit, the arbiter and the lamp unit do with the cell port's reading
requests and LAMP-ACK once the port has taken them (03, 08, 12). -/

namespace Sys2Proof.Machine

open Sys2Proof

/-- The page of READ-STATUS (R155); none above 2. -/
def State.statusPage (s : State) : Nat → Option (List Word)
  | 0 => some s.page0
  | 1 => some s.page1
  | 2 => some s.page2
  | _ => none

/-- READ-STATUS taken (R155 to R158). -/
def takeReadStatus (r : Request) (s : State) : State :=
  if r.words.length ≠ 1 then s.reply .cell r.tag .badparam []
  else
    match s.statusPage (natAt r.words 0) with
    | none => s.reply .cell r.tag .badparam []
    | some ws => s.reply .cell r.tag .done ws

/-- READ-CLAIMS taken (R41). -/
def takeReadClaims (r : Request) (s : State) : State :=
  if r.words.length ≠ 1 then s.reply .cell r.tag .badparam []
  else
    match headOf (wordAt r.words 0) with
    | none => s.reply .cell r.tag .badparam []
    | some h => s.reply .cell r.tag .done (s.claimWords h)

/-- READ-STATION taken (R65). -/
def takeReadStation (r : Request) (s : State) : State :=
  if r.words.length ≠ 0 then s.reply .cell r.tag .badparam []
  else s.reply .cell r.tag .done s.stationWords

/-- Remove the `k` oldest bond records (R148). -/
def State.removeRecords (s : State) (k : Nat) : State := s.setReport { s.report with log := s.report.log.drop k }

/-- READ-LOG taken (R148, R149). -/
def takeReadLog (r : Request) (s : State) : State :=
  let k := natAt r.words 0
  if r.words.length ≠ 1 then s.reply .cell r.tag .badparam []
  else if k < 1 ∨ 2 < k then s.reply .cell r.tag .badparam []
  else if s.report.log.isEmpty then s.reply .cell r.tag .none []
  else
    ((s.removeRecords k).reply .cell r.tag .done ((s.report.log.take k).flatMap BondRecord.toWords)).wakeReserves

/-- READ-NOTICES taken (R153, R154). -/
def takeReadNotices (r : Request) (s : State) : State :=
  let k := natAt r.words 0
  if r.words.length ≠ 1 then s.reply .cell r.tag .badparam []
  else if k < 1 ∨ 4 < k then s.reply .cell r.tag .badparam []
  else if s.report.notices.isEmpty then s.reply .cell r.tag .none []
  else (s.removeNotices k).reply .cell r.tag .done ((s.report.notices.take k).flatMap Notice.toWords)

/-- LAMP-ACK taken (R203). -/
def takeLampAck (r : Request) (s : State) : State :=
  if r.words.length ≠ 0 then s.reply .cell r.tag .badparam []
  else ({ s with spoilLatch := false }).reply .cell r.tag .done [word (bit s.spoilLatch)]

end Sys2Proof.Machine
end

