-- ==== Sys2Proof/Machine/RecoveryRequests.lean ====
section
/-! DEFINITION. What the mode controller, the claim unit and the link units do with HEAD-ENABLE, FORFEIT, ABORT and
CLEAR-ABORT once the port has taken them (11). -/

namespace Sys2Proof.Machine

open Sys2Proof

/-- Set the enabled flag of a head (R198). -/
def State.setEnabled (s : State) (h : Head) (on : Bool) : State := { s with headEnabled := s.headEnabled.set h on }

/-- Disable a head (R198): the flag clears, and HEAD-DISABLED reaches its port as a sticky cause. -/
def State.disableHead (s : State) (h : Head) : State :=
  if s.headEnabled.get h then (s.setEnabled h false).causeReaches h.port .headDisabled true else s

/-- Enable a head (R198): the flag sets, and HEAD-DISABLED becomes not sticky. -/
def State.enableHead (s : State) (h : Head) : State :=
  if s.headEnabled.get h then s
  else (s.setEnabled h true).setLink h.port ((s.link h.port).unstick .headDisabled)

/-- HEAD-ENABLE taken (R198). -/
def takeHeadEnable (r : Request) (s : State) : State :=
  if r.words.length ≠ 2 then s.reply .cell r.tag .badparam []
  else
    match headOf (wordAt r.words 0) with
    | none => s.reply .cell r.tag .badparam []
    | some h =>
      if wordAt r.words 1 = 0 then (s.disableHead h).reply .cell r.tag .done [0]
      else if wordAt r.words 1 = 1 then (s.enableHead h).reply .cell r.tag .done [1]
      else s.reply .cell r.tag .badparam []

/-- FORFEIT taken (R199): the removal of the entry wakes a held RESERVE, before the die is LOST and its notice queued. -/
def takeForfeit (r : Request) (s : State) : State :=
  if r.words.length ≠ 1 then s.reply .cell r.tag .badparam []
  else
    match headOf (wordAt r.words 0) with
    | none => s.reply .cell r.tag .badparam []
    | some h =>
      if s.headEnabled.get h then s.reply .cell r.tag .state []
      else
        match s.carriedClaim h with
        | none => s.reply .cell r.tag .none []
        | some c =>
          let t := (s.removeClaim h c.die .carried).wakeReserves.moveDie c.wafer c.die .lost (some .forfeit) none
          (t.notify .dieLost (dieNotice c.die c.wafer .forfeit h)).reply .cell r.tag .done [word c.die, c.wafer]

/-- ABORT taken on a port that is not aborted (R195). -/
def takeAbort (p : Port) (r : Request) (s : State) : State :=
  if r.words.length ≠ 0 then s.reply p r.tag .badparam []
  else
    let t := s.enterAbort p .masterAbort false
    t.reply p r.tag .done [word (t.link p).flushed]

/-- A link unit after CLEAR-ABORT (R196). -/
def Link.cleared (l : Link) : Link :=
  { l with
    causes := l.causes.filter CauseMark.sticky
    flushed := 0
    firstCause := if (l.causes.filter CauseMark.sticky).isEmpty then none else l.firstCause }

/-- The six words of the CLEAR-ABORT reply (R196). -/
def Link.clearWords (l : Link) : List Word :=
  [causeWord l.causes, stickyWord l.causes, word l.flushed] ++ wordsTime l.firstCause
    ++ [word (bit (l.causes.any CauseMark.sticky))]

/-- CLEAR-ABORT taken (R196). -/
def takeClearAbort (p : Port) (r : Request) (s : State) : State :=
  if r.words.length ≠ 0 then s.reply p r.tag .badparam []
  else (s.setLink p (s.link p).cleared).reply p r.tag .done (s.link p).clearWords

end Sys2Proof.Machine
end

