-- ==== Sys2Proof/Machine/Links.lean ====
section
/-! DEFINITION. The link units' taking of requests (10): the handing of a request to its block (R181), the taking of
queued requests until no port can take one, and the immediate requests (R183 to R185). -/

namespace Sys2Proof.Machine

open Sys2Proof

/-! ## Immediate requests -/

/-- Answer the held request CANCELLED and the CANCEL DONE, in this order (R184). -/
def State.acceptCancel (s : State) (p : Port) (r : Request) : State :=
  (s.answerHeld p .cancelled []).reply p r.tag .done []

/-- The head's PICK still waits in the waiting queue (R58). -/
def State.isWaiting (s : State) (h : Head) : Bool := s.arbiter.waiting.any fun e => e.head == h

/-- The cancellation of the request a port holds, as its block decides (R184): a PICK only while it waits (R58), a
PLACE with its placer entry (R121), the others always (R45, R53, R97). -/
def State.cancelHeld (s : State) (p : Port) (r : Request) (held : Request) : State :=
  match p.head? with
  | none => s.acceptCancel p r
  | some h =>
    if held.code = Command.pick.code then
      if s.isWaiting h then (s.removeWaiter h).acceptCancel p r else s.reply p r.tag .state []
    else if held.code = Command.place.code then (s.removePlacer h).acceptCancel p r
    else s.acceptCancel p r

/-- CANCEL taken (R184). -/
def takeCancel (p : Port) (r : Request) (s : State) : State :=
  if r.words.length ≠ 0 then s.reply p r.tag .badparam []
  else
    match (s.link p).held with
    | none => s.reply p r.tag .none []
    | some h => s.cancelHeld p r h.request

/-- PORT-STATUS taken (R185). -/
def takePortStatus (p : Port) (r : Request) (s : State) : State :=
  if r.words.length ≠ 0 then s.reply p r.tag .badparam []
  else s.reply p r.tag .done (s.portStatusWords p)

/-! ## Handing a request to its block -/

/-- Hand a request to a block of one head; a port of no head gets BADCMD (its role admits no head request, R188). -/
def onHead (p : Port) (r : Request) (f : Head → Request → State → State) (s : State) : State :=
  match p.head? with
  | none => s.reply p r.tag .badcmd []
  | some h => f h r s

/-- The block's part of a request (R181, step 3). A RESET reaches this only with words, which fail its word count
(R186). -/
def takeCommand (p : Port) (c : Command) (r : Request) (s : State) : State :=
  match c with
  | .cancel => takeCancel p r s
  | .portStatus => takePortStatus p r s
  | .abort => takeAbort p r s
  | .clearAbort => takeClearAbort p r s
  | .reserve => onHead p r takeReserve s
  | .release => onHead p r takeRelease s
  | .pick => onHead p r takePick s
  | .picked => onHead p r takePicked s
  | .pickFail => onHead p r takePickFail s
  | .place => onHead p r takePlace s
  | .bonded => onHead p r takeBonded s
  | .bondFail => onHead p r takeBondFail s
  | .discard => onHead p r takeDiscard s
  | .claims => onHead p r takeClaims s
  | .awaitOrder => takeAwaitOrder r s
  | .presented => takePresented r s
  | .presentFail => takePresentFail r s
  | .nextSite => takeNextSite r s
  | .dispensed => takeDispensed r s
  | .dispenseFail => takeDispenseFail r s
  | .set => takeSet r s
  | .get => takeGet r s
  | .start => takeStart r s
  | .drain => takeDrain r s
  | .resume => takeResume r s
  | .halt => takeHalt r s
  | .stop => takeStop r s
  | .reset => s.reply p r.tag .badparam []
  | .mapOpen => takeMapOpen r s
  | .mapDie => takeMapDie r s
  | .mapClose => takeMapClose r s
  | .mapAbandon => takeMapAbandon r s
  | .mapAlign => takeMapAlign r s
  | .waferClose => takeWaferClose r s
  | .resolve => takeResolve r s
  | .readDie => takeReadDie r s
  | .stripLoad => takeStripLoad r s
  | .stripBad => takeStripBad r s
  | .trackClear => takeTrackClear r s
  | .indexRequest => takeIndexRequest r s
  | .indexDone => takeIndexDone r s
  | .indexCancel => takeIndexCancel r s
  | .readSite => takeReadSite r s
  | .readStatus => takeReadStatus r s
  | .readClaims => takeReadClaims r s
  | .readStation => takeReadStation r s
  | .readLog => takeReadLog r s
  | .readNotices => takeReadNotices r s
  | .headEnable => takeHeadEnable r s
  | .forfeit => takeForfeit r s
  | .lampAck => takeLampAck r s

/-- A taken request clears the port's fresh flag, whatever its reply (R177). -/
def State.clearFresh (s : State) (p : Port) : State := s.setLink p { s.link p with fresh := false }

/-- Take a queued request (R181): the role check, then the abort check, then the block. -/
def take (p : Port) (r : Request) (s : State) : State :=
  let t := s.clearFresh p
  match p.command r.code with
  | none => t.reply p r.tag .badcmd []
  | some c =>
    if t.isAborted p && c != .clearAbort then t.reply p r.tag .aborted []
    else takeCommand p c r t

/-- Take an immediate request (R183): on an aborted port as on any other (R194). -/
def takeNow (p : Port) (r : Request) (s : State) : State :=
  let t := s.clearFresh p
  match p.command r.code with
  | none => t.reply p r.tag .badcmd []
  | some c => takeCommand p c r t

/-! ## The order of work -/

/-- A port can take its oldest queued request (R181). -/
def Link.canTake (l : Link) : Bool := !l.requests.isEmpty && l.held.isNone && decide (l.replies.length ≤ 7)

/-- The ports that can take a request now. -/
def State.ready (s : State) : List Port := Port.all.filter fun p => (s.link p).canTake

/-- A port takes its oldest queued request (R181). -/
def State.takeOldest (s : State) (p : Port) : State :=
  match (s.link p).requests with
  | [] => s
  | r :: rest => take p r (s.setLink p { s.link p with requests := rest })

/-- A choice among several ports has been made when there were several. -/
def State.chooseAmong {α : Type} (s : State) (xs : List α) : State := if 1 < xs.length then s.choose else s

/-- Take queued requests while some port can (R181), at most the number given. -/
def settleFor : Nat → State → State
  | 0, s => s
  | n + 1, s =>
    match pickOne s.choices s.ready with
    | none => s
    | some p => settleFor n ((s.chooseAmong s.ready).takeOldest p)

/-- The requests waiting in all request queues. -/
def State.queued (s : State) : Nat := (Port.all.map fun p => (s.link p).requests.length).sum

/-- The end of every event (R181): each port that can take a request takes it, until none can. Every taking shortens a
queue and none lengthens one, so the number of waiting requests bounds the takings. The order among ports is free (log
entry 3). -/
def State.settle (s : State) : State := settleFor s.queued s

end Sys2Proof.Machine
end

