-- ==== Sys2Proof/Machine/Resets.lean ====
section
/-! DEFINITION. The three resets (09, R171, R172; the reset rule of every block): power-on and pin reset with their
release and the end of INIT, and the soft reset. -/

namespace Sys2Proof.Machine

open Sys2Proof

/-- An input that is high as a power-on or pin reset is released records no edge until it has gone low (R137). -/
def PinLevel.atRelease : PinLevel → PinLevel
  | .low => .low
  | .rising => .high
  | .high => .high

/-- The state that a power-on or pin reset in force holds (R172 and every block's reset rule): State.reset, but for
what a reset does not reach: the command queue, the free choices, the levels of the pins (log entries 13 and 25), and the
die memory, which only the INIT after the release clears (R161; log entry 14). -/
def State.heldInReset (s : State) (supply pin : Bool) : State :=
  { State.reset with
    pending := s.pending
    choices := s.choices
    supplyLow := supply
    resetLow := pin
    map := { DieMap.reset with table := s.map.table, bitmap := s.map.bitmap }
    capture := s.capture.map fun c => CaptureLine.reset c.pin
    links := s.links.map fun l => { Link.reset with selectLow := l.selectLow } }

/-- A cause of reset ends (R161, R172): with no cause left, line time begins to advance and INIT begins. -/
def State.release (s : State) (kind : ResetKind) : State :=
  let t : State :=
    match kind with
    | .powerOn => { s with supplyLow := false }
    | .pin => { s with resetLow := false }
  if s.inReset && !t.inReset then
    { t with capture := t.capture.map fun c => { c with pin := c.pin.atRelease } }
  else t

/-- INIT ends (R161): the die table memory and the bitmap are clear, and the mode becomes SETUP. Outside INIT, and
while a reset is in force, nothing happens (log entry 5). -/
def State.completeInit (s : State) : State :=
  if s.mode = .init && !s.inReset then
    { s with mode := .setup, map := { s.map with table := [], bitmap := [] } }
  else s

/-- A link unit after a soft reset (R171, R190, R200). A frame in progress goes on, its SEL low, with no reply to remove
at its end (R178, R186). -/
def Link.softReset (l : Link) : Link :=
  { Link.reset with
    selectLow := l.selectLow
    frame := l.frame.map fun f => { f with live := false }
    sdo := l.sdo }

/-- The soft reset (R171 and every block's reset rule): the settings, the line time and the pin levels are kept.
DESIGN CHOICE: leaving-RUN reports not yet taken are dropped with the entries into abort (log entry 7). -/
def State.softReset (s : State) : State :=
  { s with
    mode := .setup
    reports := ⟨0, 0⟩
    headEnabled := ⟨true, true⟩
    map := s.map.softReset
    drift := ⟨0, 0⟩
    claims := ⟨[], []⟩
    arbiter := Arbiter.reset
    track := Track.reset
    dispenser := Dispenser.reset
    placement := Placement.reset
    capture := s.capture.map fun c => CaptureLine.reset c.pin
    report := ReportUnit.reset
    links := s.links.map Link.softReset
    spoilLatch := false }

end Sys2Proof.Machine
end

