-- ==== Sys2Proof/Machine/Frames.lean ====
section
/-! DEFINITION. The frames of a port (10): the status byte at the first byte, the form of a request frame and its end,
the fetch frame, lost frames, and the arrival of a well-formed request frame (R173 to R186). -/

namespace Sys2Proof.Machine

open Sys2Proof

/-! ## Bytes of a frame -/

/-- The two bytes of a word, most significant first (R174). -/
def wordBytes (w : Word) : List Byte := [w.extractLsb' 8 8, w.extractLsb' 0 8]

/-- The words of a run of bytes, two bytes each. -/
def wordsOf : List Byte → List Word
  | [] => []
  | [_] => []
  | hi :: lo :: rest => (hi ++ lo : BitVec 16) :: wordsOf rest

/-- The bytes of a request frame (R174). -/
def frameBytes (r : Request) : List Byte :=
  [r.code, r.tag, BitVec.ofNat 8 r.words.length] ++ r.words.flatMap wordBytes

/-- The request a frame's bytes carry; none when the frame is malformed (R174). -/
def parseFrame (bytes : List Byte) (extraBits : Nat) : Option Request :=
  match bytes with
  | code :: tag :: n :: rest =>
    if n.toNat ≤ Config.maxRequestWords ∧ rest.length = 2 * n.toNat ∧ extraBits = 0 then some ⟨code, tag, wordsOf rest⟩
    else none
  | _ => none

/-- The bytes a fetch shifts out after the status byte (R178): of a reply, or of the EMPTY reply. -/
def replyBytes : Option Reply → List Byte
  | none => [0, 0, 0]
  | some r => [r.tag, r.code.byte, BitVec.ofNat 8 r.words.length] ++ r.words.flatMap wordBytes

/-- The first `n` bytes of a fetch frame: the status byte, the reply, then 00h (R178). -/
def fetchBytes (f : OpenFrame) (n : Nat) : List Byte := (f.status :: replyBytes f.oldest ++ List.replicate n 0).take n

/-! ## Begin and end of a frame -/

/-- What a frame on the port would show if it began now (R175, R178). -/
def State.newFrame (s : State) (p : Port) : OpenFrame := ⟨s.statusByte p, (s.link p).replies.head?, true⟩

/-- The port's SEL pin goes low (R173), while a reset is in force as at any other time (R205). -/
def State.select (s : State) (p : Port) : State := s.setLink p { s.link p with selectLow := true }

/-- A frame's first byte begins, with SEL low: the status byte is formed as the port stands (R175). While the part is
held in reset no frame is taken (R172). -/
def State.beginFrame (s : State) (p : Port) : State :=
  if s.inReset then s.select p else s.setLink p { s.link p with selectLow := true, frame := some (s.newFrame p) }

/-- The frame that ends on a port: the one in progress, or, when the part has not seen one begin, one that begins as
it ends (log entry 23). -/
def State.endingFrame (s : State) (p : Port) : OpenFrame := (s.link p).frame.getD (s.newFrame p)

/-- A fetch frame's first byte completes: the reply to shift out is the one that is oldest now (R178). -/
def State.fixReply (s : State) (p : Port) : State :=
  match (s.link p).frame with
  | none => s
  | some f => s.setLink p { s.link p with frame := some { f with oldest := (s.link p).replies.head?, live := true } }

/-- The port's SEL pin goes high, and no frame is in progress on the port any more. -/
def State.dropFrame (s : State) (p : Port) : State := s.setLink p { s.link p with selectLow := false, frame := none }

/-- The end of a frame that the part takes or discards: SEL is high, the lost flag clears when the frame's status byte
showed it (R176), and what the frame shifted out is kept. -/
def Link.endFrame (l : Link) (f : OpenFrame) (out : List Byte) : Link :=
  { l with selectLow := false, frame := none, lost := l.lost && !f.status.getLsbD 0, sdo := out }

/-- Discard a frame (R176): the lost flag is set and the lost-frame counter rises. -/
def Link.discard (l : Link) : Link := { l with lost := true, lostFrames := satAdd l.lostFrames 1 }

/-- Discard a frame on a port. -/
def State.discard (s : State) (p : Port) : State := s.setLink p (s.link p).discard

/-! ## Requests -/

/-- The room check of an immediate request (R183). -/
def Link.hasRoom (l : Link) : Bool := decide (l.replies.length ≤ if l.held.isSome then 6 else 7)

/-- A request that is taken as a soft reset: RESET with no words on the cell port (R186). -/
def isSoftReset (p : Port) (r : Request) : Bool := p == .cell && r.code == Command.reset.code && r.words.isEmpty

/-- A well-formed request has arrived (R174): a RESET resets, another immediate request is taken under its room check
(R183), and any other request joins the request queue, or is discarded when the queue is full (R179). -/
def State.receive (s : State) (p : Port) (r : Request) : State :=
  if isSoftReset p r then s.softReset
  else if p.isImmediate r.code then
    if (s.link p).hasRoom then (takeNow p r s).settle else s.discard p
  else if (s.link p).requests.length < Config.requestCapacity then
    (s.setLink p { s.link p with requests := (s.link p).requests ++ [r] }).settle
  else s.discard p

/-- The end of a request frame (R174): discarded in INIT or when malformed, else its request arrives. -/
def State.endRequest (s : State) (p : Port) (bytes : List Byte) (extraBits : Nat) : State :=
  let f := s.endingFrame p
  let t := s.setLink p ((s.link p).endFrame f (f.status :: List.replicate (bytes.length - 1) 0))
  if t.mode = .init then t.discard p
  else
    match parseFrame bytes extraBits with
    | none => t.discard p
    | some r => t.receive p r

/-! ## Fetch frames -/

/-- The reply that a fetch frame of `n` whole bytes removes leaves the queue (R178). -/
def Link.fetched (l : Link) (f : OpenFrame) (n : Nat) : Link :=
  match f.oldest with
  | none => l
  | some r => if f.live && decide (4 + 2 * r.words.length ≤ n) then { l with replies := l.replies.tail } else l

/-- The end of a fetch frame of `n` whole bytes (R178): discarded in INIT, else a reply shifted out whole leaves the
queue, which may let the port take its next request (R181). -/
def State.endFetch (s : State) (p : Port) (n : Nat) : State :=
  let f := s.endingFrame p
  let l := (s.link p).endFrame f (fetchBytes f n)
  if s.mode = .init then (s.setLink p l).discard p else (s.setLink p (l.fetched f n)).settle

/-- The end of a frame (R173): a frame of no whole byte changes nothing, a first byte of 00h makes a fetch, any other
a request frame. While the part is held in reset no frame is taken. -/
def State.endFrame (s : State) (p : Port) (bytes : List Byte) (extraBits : Nat) : State :=
  if s.inReset then s.dropFrame p
  else
    match bytes with
    | [] => s.dropFrame p
    | b :: rest => if b = 0 then s.endFetch p (rest.length + 1) else s.endRequest p (b :: rest) extraBits

/-- The end of a fetch frame given by its number of whole bytes. -/
def State.endFetchFrame (s : State) (p : Port) (n : Nat) : State :=
  if s.inReset || n == 0 then s.dropFrame p else s.endFetch p n

/-- The arrival of one whole request frame: its first byte, then its end (log entry 8). -/
def State.arrive (s : State) (p : Port) (r : Request) : State := (s.beginFrame p).endFrame p (frameBytes r) 0

/-- The arrival of a request by its name. -/
def State.request (s : State) (p : Port) (c : Command) (tag : Byte) (words : List Word) : State :=
  s.arrive p ⟨c.code, tag, words⟩

end Sys2Proof.Machine
end

