-- ==== Sys2Proof/Machine/Capture.lean ====
section
/-! DEFINITION. The capture inputs (07, R137 to R140): the edge filter, the recording of a qualified edge, and the age
limit of an entry. -/

namespace Sys2Proof.Machine

open Sys2Proof

/-- How many captured line times a queue holds (R138). -/
def CaptureInput.capacity : CaptureInput → Nat
  | .shot => 4
  | .tda => 2
  | .tdb => 2

/-- The level of an input after a pin event (R137). Only a rise from low begins an edge, and a fall ends it. -/
def PinLevel.next (l : PinLevel) (e : PinEvent) : PinLevel :=
  match l, e with
  | _, .falls => .low
  | .low, .rises => .rising
  | .rising, .rises => .rising
  | .high, .rises => .high
  | .rising, .staysHigh => .high
  | .low, .staysHigh => .low
  | .high, .staysHigh => .high

/-- A pin event qualifies an edge: the input has stayed high for 2 µs since its rise (R137). -/
def PinLevel.qualifies (l : PinLevel) (e : PinEvent) : Bool := l == .rising && e == .staysHigh

/-- Record a qualified edge at a line time (R138): appended, or lost and counted when the queue is full. -/
def CaptureLine.record (c : CaptureLine) (capacity : Nat) (t : Time) : CaptureLine :=
  if c.queue.length < capacity then { c with queue := c.queue ++ [t] } else { c with lost := satAdd c.lost 1 }

/-- The capture line of an input. -/
def State.line (s : State) (i : CaptureInput) : CaptureLine := s.capture.get i

/-- A pin event at a capture input (R137). While a power-on or pin reset is in force no edge is recorded (R144). -/
def State.pinEvent (s : State) (i : CaptureInput) (e : PinEvent) : State :=
  let c := s.line i
  let moved : CaptureLine := { c with pin := c.pin.next e }
  s.setCapture i
    (if c.pin.qualifies e && !s.inReset then moved.record (CaptureInput.capacity i) s.lineTime else moved)

/-- An entry has reached the age limit (R139). -/
def aged (now t : Time) : Bool := notEarlier now (after t Config.captureAgeLimit)

/-- Remove the oldest entry of a queue as stray (R139, R140). -/
def CaptureLine.dropOldest (c : CaptureLine) : CaptureLine :=
  { c with queue := c.queue.tail, stray := satAdd c.stray 1 }

end Sys2Proof.Machine
end

