-- ==== Sys2Proof/Machine/Timers.lean ====
section
/-! DEFINITION. The timers (R142): which of them have run out, what each expiry does (R45, R59, R61, R97, R102, R106,
R107, R121, R129, R139), and the step of line time (R134). -/

namespace Sys2Proof.Machine

open Sys2Proof

/-- A timer of the part by its owner (R142). -/
inductive Timer
  | presentation
  | grant (h : Head)
  | placeHold (h : Head)
  | dispenseHold
  | potLife (strip : Word) (column row : Nat)
  | wait (p : Port)
  | age (i : CaptureInput)
  deriving DecidableEq, Repr

/-! ## Which timers have run out -/

/-- The expiry of the pot-life timer of a named site, while it runs (R105). -/
def State.potExpiry (s : State) (strip : Word) (column row : Nat) : Option Time :=
  (s.findSite strip column row).bind fun px => px.2.potExpiry

/-- The expiry of the wait timer of a port, while it runs (R182). -/
def State.waitExpiry (s : State) (p : Port) : Option Time := (s.link p).held.bind Held.expiry

/-- A timer has run out at the present line time (R142). -/
def State.isDue (s : State) (t : Timer) : Bool :=
  match t with
  | .presentation => expired s.lineTime s.arbiter.presentTimer
  | .grant h => expired s.lineTime (s.arbiter.grantTimer.get h)
  | .placeHold h => expired s.lineTime (s.placement.hold.get h)
  | .dispenseHold => expired s.lineTime s.dispenser.hold
  | .potLife strip column row => expired s.lineTime (s.potExpiry strip column row)
  | .wait p => expired s.lineTime (s.waitExpiry p)
  | .age i =>
    match (s.line i).queue with
    | [] => false
    | t :: _ => aged s.lineTime t

/-! ## What an expiry does -/

/-- The presentation timer expires (R59): the table port is aborted. -/
def State.expirePresentation (s : State) : State :=
  (s.setArbiter { s.arbiter with presentTimer := none }).causeReaches .table .presentExpired false

/-- A grant timer expires (R61): the head port is aborted. -/
def State.expireGrant (s : State) (h : Head) : State :=
  (s.setArbiter { s.arbiter with grantTimer := s.arbiter.grantTimer.set h none }).causeReaches h.port .grantExpired
    false

/-- Steps 1 and 2 of a place-hold expiry (R129): the site spoils PLACE-UNKNOWN with its notice, and the die is lost
with its entry and its notice. -/
def State.losePlaced (s : State) (h : Head) (a : Assigned) (st : Stamp) : State :=
  let s := s.spoil a.strip a.column a.row a.position .placeUnknown (some st)
  ((s.moveDie a.wafer a.die .lost (some .placeUnknown) none).removeClaim h a.die .carried).notify .dieLost
    (dieNotice a.die a.wafer .placeUnknown h)

/-- A place-hold timer expires (R129). The wake-ups follow with those of the abort (R197). -/
def State.expirePlaceHold (s : State) (h : Head) : State :=
  match s.assignedOf h with
  | none => s.endAssignment h
  | some a =>
    match s.siteAt a.position a.row with
    | some (.assigned st _ _ _) => ((s.losePlaced h a st).endAssignment h).causeReaches h.port .placeExpired false
    | _ => s.endAssignment h

/-- The dispense-hold timer expires (R102): the dispense port is aborted. -/
def State.expireDispenseHold (s : State) : State :=
  (s.setDispenser { s.dispenser with hold := none }).causeReaches .dispense .dispenseExpired false

/-- The pot-life timer of a named site expires: a WET site spoils EXPIRED and wakes a held NEXT-SITE (R106), an
ASSIGNED site becomes late (R107). -/
def State.expirePotLife (s : State) (strip : Word) (column row : Nat) : State :=
  match s.findSite strip column row with
  | some (p, .wet st) => (s.spoil strip column row p .expired (some st)).serveNextSite
  | some (p, .assigned st h since _) => s.setSite p row (.assigned st h since true)
  | _ => s

/-- A held request's wait expires (R45, R97, R121): it is answered TIMEOUT, and a PLACE leaves the placer queue. -/
def State.expireWait (s : State) (p : Port) : State :=
  match p.head? with
  | none => s.answerHeld p .timeout []
  | some h =>
    if s.holds p Command.place.code then (s.removePlacer h).answerHeld p .timeout [] else s.answerHeld p .timeout []

/-- The expiry of a timer, as an event of its owner. -/
def State.expire (s : State) (t : Timer) : State :=
  match t with
  | .presentation => s.expirePresentation
  | .grant h => s.expireGrant h
  | .placeHold h => s.expirePlaceHold h
  | .dispenseHold => s.expireDispenseHold
  | .potLife strip column row => s.expirePotLife strip column row
  | .wait p => s.expireWait p
  | .age i => s.setCapture i (s.line i).dropOldest

/-- An expiry is taken when its timer has run out; otherwise there is no such event and nothing happens (R143, log
entry 5). -/
def State.takeExpiry (s : State) (t : Timer) : State := if s.isDue t then (s.expire t).settle else s

/-! ## The step of line time -/

/-- The pot-life timers of one column. -/
def Column.potTimers (c : Column) : List Timer :=
  (List.range c.sites.length).map fun r => .potLife c.strip c.column r

/-- One age limit for each entry of a capture queue. -/
def State.ageTimers (s : State) (i : CaptureInput) : List Timer := (s.line i).queue.map fun _ => .age i

/-- The timers of the part that may run, each once (an age limit once for each entry). -/
def State.timers (s : State) : List Timer :=
  [.presentation, .grant .A, .grant .B, .placeHold .A, .placeHold .B, .dispenseHold]
    ++ s.columns.flatMap Column.potTimers ++ Port.all.map Timer.wait
    ++ (s.ageTimers .shot ++ s.ageTimers .tda ++ s.ageTimers .tdb)

/-- The timers that have run out. -/
def State.due (s : State) : List Timer := s.timers.filter s.isDue

/-- Take expiries that are due, one event each, in an order that is free (R143, log entry 3), at most the number given. -/
def takeDueFor : Nat → State → State
  | 0, s => s
  | n + 1, s =>
    match pickOne s.choices s.due with
    | none => s
    | some t => takeDueFor n (((s.chooseAmong s.due).expire t).settle)

/-- Take every expiry that is due (R142: each timer expires at the line time equal to its expiry time). No expiry
starts a timer that is due, so the number due bounds the expiries. -/
def State.takeDue (s : State) : State := takeDueFor s.due.length s

/-- INIT ends at a line time of at most 2 (R161). -/
def State.endInit (s : State) : State := if Config.initLimit ≤ s.lineTime.toNat then s.completeInit else s

/-- Line time rises by one, modulo 2^32 (R134). -/
def State.tick (s : State) : State := { s with lineTime := s.lineTime + 1 }

/-- A step of line time (R134): what must come at the present line time comes first (log entry 4). While a power-on or
pin reset is in force the line time stays 0 (R135). -/
def State.lineTimeStep (s : State) : State := if s.inReset then s else s.takeDue.endInit.tick

end Sys2Proof.Machine
end

