-- ==== Sys2Proof/Machine/Requested.lean ====
section
/-! DEFINITION. The events that a mode change has requested and that are taken later: an entry into abort with
LINE-HALT (R165, R166), and a leaving-RUN report (R164). -/

namespace Sys2Proof.Machine

open Sys2Proof

/-- A port takes an entry into abort that HALT requested (R165): LINE-HALT is sticky while the line mode is HALT (R166,
R193). Without such a request there is no such event (log entry 5). -/
def State.takeHaltEntry (s : State) (p : Port) : State :=
  match (s.link p).haltEntries with
  | 0 => s
  | k + 1 =>
    ((s.setLink p { s.link p with haltEntries := k }).causeReaches p .lineHalt (s.mode == .halt)).settle

/-- Answer a port's held request MODE when it is the request named (R164). -/
def State.answerMode (s : State) (p : Port) (c : Command) : State :=
  if s.holds p c.code then s.answerHeld p .mode [] else s

/-- The claim unit takes a leaving-RUN report (R164): the held RESERVE requests are answered MODE. -/
def State.reportClaimUnit (s : State) : State :=
  match s.reports.claimUnit with
  | 0 => s
  | k + 1 =>
    ((({ s with reports := { s.reports with claimUnit := k } }).answerMode .headA .reserve).answerMode .headB
      .reserve).settle

/-- The dispense sequencer takes a leaving-RUN report (R164): a held NEXT-SITE is answered MODE. -/
def State.reportDispenser (s : State) : State :=
  match s.reports.dispenseSequencer with
  | 0 => s
  | k + 1 => (({ s with reports := { s.reports with dispenseSequencer := k } }).answerMode .dispense .nextSite).settle

/-- A block takes a leaving-RUN report; without one requested there is no such event (log entry 5). -/
def State.takeReport (s : State) (dest : ReportTo) : State :=
  match dest with
  | .claimUnit => s.reportClaimUnit
  | .dispenseSequencer => s.reportDispenser

end Sys2Proof.Machine
end

