-- ==== Sys2Proof/Machine/ResetCommands.lean ====
section
/-! DEFINITION. The meanings of the commands of resets and the clock. -/

namespace Sys2Proof.Machine

open Sys2Proof

/-- POWER_ON_RESET (R172): supply is below its threshold and holds the part in reset. -/
def execPowerOnReset (s : State) : Host.Outcome State Fault Refusal :=
  .next (s.heldInReset true s.resetLow)

/-- PIN_RESET (R172): RESET# is asserted and holds the part in reset. -/
def execPinReset (s : State) : Host.Outcome State Fault Refusal :=
  .next (s.heldInReset s.supplyLow true)

/-- RESET_RELEASE (R161, R172): one cause of reset ends; with none left, INIT begins. -/
def execResetRelease (kind : ResetKind) (s : State) : Host.Outcome State Fault Refusal :=
  .next (s.release kind)

/-- INIT_COMPLETE (R161): the die memory is clear, and the mode becomes SETUP. -/
def execInitComplete (s : State) : Host.Outcome State Fault Refusal :=
  .next (s.completeInit)

/-- LINE_TIME_STEP (R134). -/
def execLineTimeStep (s : State) : Host.Outcome State Fault Refusal :=
  .next (s.lineTimeStep)

end Sys2Proof.Machine
end

