-- ==== Sys2Proof/Machine/CaptureCommands.lean ====
section
/-! DEFINITION. The meanings of the commands of the capture inputs. -/

namespace Sys2Proof.Machine

open Sys2Proof

/-- CAPTURE_EDGE (R137, R138): a pin event at a capture input; the event that qualifies an edge records it. -/
def execCaptureEdge (input : CaptureInput) (event : PinEvent) (s : State) : Host.Outcome State Fault Refusal :=
  .next (s.pinEvent input event)

/-- CAPTURE_AGE_LIMIT (R139): the oldest entry of a capture queue is removed as stray when it has reached its age limit. -/
def execCaptureAgeLimit (input : CaptureInput) (s : State) : Host.Outcome State Fault Refusal :=
  .next (s.takeExpiry (.age input))

end Sys2Proof.Machine
end

