-- ==== Sys2Proof/Machine/ExpiryCommands.lean ====
section
/-! DEFINITION. The meanings of the commands of the timer expiries. -/

namespace Sys2Proof.Machine

open Sys2Proof

/-- PRESENTATION_TIMER_EXPIRY (R59). -/
def execPresentationTimerExpiry (s : State) : Host.Outcome State Fault Refusal :=
  .next (s.takeExpiry .presentation)

/-- GRANT_TIMER_EXPIRY (R61). -/
def execGrantTimerExpiry (head : Head) (s : State) : Host.Outcome State Fault Refusal :=
  .next (s.takeExpiry (.grant head))

/-- PLACE_HOLD_EXPIRY (R129). -/
def execPlaceHoldExpiry (head : Head) (s : State) : Host.Outcome State Fault Refusal :=
  .next (s.takeExpiry (.placeHold head))

/-- DISPENSE_HOLD_EXPIRY (R102). -/
def execDispenseHoldExpiry (s : State) : Host.Outcome State Fault Refusal :=
  .next (s.takeExpiry .dispenseHold)

/-- POT_LIFE_EXPIRY (R106, R107) of a named site. -/
def execPotLifeExpiry (strip : Word) (column : Nat) (row : Nat) (s : State) : Host.Outcome State Fault Refusal :=
  .next (s.takeExpiry (.potLife strip column row))

/-- HELD_REQUEST_WAIT_EXPIRY (R45, R97, R121). -/
def execHeldRequestWaitExpiry (port : Port) (s : State) : Host.Outcome State Fault Refusal :=
  .next (s.takeExpiry (.wait port))

end Sys2Proof.Machine
end

