-- ==== Sys2Proof/Machine/LinkCommands.lean ====
section
/-! DEFINITION. The meanings of the commands of the link units: raw frames, and the requests that every port accepts. -/

namespace Sys2Proof.Machine

open Sys2Proof

/-- REQUEST_FRAME (R173 to R179): a frame of raw bytes on a port. -/
def execRequestFrame (port : Port) (event : FrameEvent) (s : State) : Host.Outcome State Fault Refusal :=
  match event with
  | .selected => .next (s.select port)
  | .begins => .next (s.beginFrame port)
  | .ends bytes extraBits => .next (s.endFrame port bytes extraBits)

/-- FETCH (R178): a fetch frame on a port. -/
def execFetch (port : Port) (event : FetchEvent) (s : State) : Host.Outcome State Fault Refusal :=
  match event with
  | .selected => .next (s.select port)
  | .begins => .next (s.beginFrame port)
  | .firstByte => .next (s.fixReply port)
  | .ends bytes => .next (s.endFetchFrame port bytes)

/-- UNKNOWN_COMMAND (R181): a request frame whose code the port does not accept; it is answered BADCMD when it is taken. -/
def execUnknownCommand (port : Port) (code : Byte) (tag : Byte) (words : List Word) (s : State) : Host.Outcome State Fault Refusal :=
  .next (s.arrive port ⟨code, tag, words⟩)

/-- CANCEL (R184). -/
def execCancel (port : Port) (tag : Byte) (words : List Word) (s : State) : Host.Outcome State Fault Refusal :=
  .next (s.request port .cancel tag words)

/-- PORT-STATUS (R185). -/
def execPortStatus (port : Port) (tag : Byte) (words : List Word) (s : State) : Host.Outcome State Fault Refusal :=
  .next (s.request port .portStatus tag words)

/-- ABORT (R195). -/
def execAbort (port : Port) (tag : Byte) (words : List Word) (s : State) : Host.Outcome State Fault Refusal :=
  .next (s.request port .abort tag words)

/-- CLEAR-ABORT (R196). -/
def execClearAbort (port : Port) (tag : Byte) (words : List Word) (s : State) : Host.Outcome State Fault Refusal :=
  .next (s.request port .clearAbort tag words)

/-- PORT_ABORT_ENTRY (R192): the port takes an entry into abort that HALT requested (R165). -/
def execPortAbortEntry (port : Port) (s : State) : Host.Outcome State Fault Refusal :=
  .next (s.takeHaltEntry port)

end Sys2Proof.Machine
end

