-- ==== Sys2Proof/Machine/HeadCommands.lean ====
section
/-! DEFINITION. The meanings of the commands of the head ports. -/

namespace Sys2Proof.Machine

open Sys2Proof

/-- RESERVE (R42). -/
def execReserve (head : Head) (tag : Byte) (words : List Word) (s : State) : Host.Outcome State Fault Refusal :=
  .next (s.request head.port .reserve tag words)

/-- RELEASE (R47). -/
def execRelease (head : Head) (tag : Byte) (words : List Word) (s : State) : Host.Outcome State Fault Refusal :=
  .next (s.request head.port .release tag words)

/-- DISCARD (R48). -/
def execDiscard (head : Head) (tag : Byte) (words : List Word) (s : State) : Host.Outcome State Fault Refusal :=
  .next (s.request head.port .discard tag words)

/-- PICK (R50). -/
def execPick (head : Head) (tag : Byte) (words : List Word) (s : State) : Host.Outcome State Fault Refusal :=
  .next (s.request head.port .pick tag words)

/-- PICKED (R56). -/
def execPicked (head : Head) (tag : Byte) (words : List Word) (s : State) : Host.Outcome State Fault Refusal :=
  .next (s.request head.port .picked tag words)

/-- PICK-FAIL (R57). -/
def execPickFail (head : Head) (tag : Byte) (words : List Word) (s : State) : Host.Outcome State Fault Refusal :=
  .next (s.request head.port .pickFail tag words)

/-- PLACE (R116). -/
def execPlace (head : Head) (tag : Byte) (words : List Word) (s : State) : Host.Outcome State Fault Refusal :=
  .next (s.request head.port .place tag words)

/-- BONDED (R124). -/
def execBonded (head : Head) (tag : Byte) (words : List Word) (s : State) : Host.Outcome State Fault Refusal :=
  .next (s.request head.port .bonded tag words)

/-- BOND-FAIL (R128). -/
def execBondFail (head : Head) (tag : Byte) (words : List Word) (s : State) : Host.Outcome State Fault Refusal :=
  .next (s.request head.port .bondFail tag words)

/-- CLAIMS (R41). -/
def execClaims (head : Head) (tag : Byte) (words : List Word) (s : State) : Host.Outcome State Fault Refusal :=
  .next (s.request head.port .claims tag words)

end Sys2Proof.Machine
end

