-- ==== Sys2Proof/Machine/TableCommands.lean ====
section
/-! DEFINITION. The meanings of the commands of the table port. -/

namespace Sys2Proof.Machine

open Sys2Proof

/-- AWAIT-ORDER (R53). -/
def execAwaitOrder (tag : Byte) (words : List Word) (s : State) : Host.Outcome State Fault Refusal :=
  .next (s.request .table .awaitOrder tag words)

/-- PRESENTED (R54). -/
def execPresented (tag : Byte) (words : List Word) (s : State) : Host.Outcome State Fault Refusal :=
  .next (s.request .table .presented tag words)

/-- PRESENT-FAIL (R55). -/
def execPresentFail (tag : Byte) (words : List Word) (s : State) : Host.Outcome State Fault Refusal :=
  .next (s.request .table .presentFail tag words)

end Sys2Proof.Machine
end

