-- ==== Sys2Proof/Machine/DispenseCommands.lean ====
section
/-! DEFINITION. The meanings of the commands of the dispense port. -/

namespace Sys2Proof.Machine

open Sys2Proof

/-- NEXT-SITE (R95). -/
def execNextSite (tag : Byte) (words : List Word) (s : State) : Host.Outcome State Fault Refusal :=
  .next (s.request .dispense .nextSite tag words)

/-- DISPENSED (R100). -/
def execDispensed (tag : Byte) (words : List Word) (s : State) : Host.Outcome State Fault Refusal :=
  .next (s.request .dispense .dispensed tag words)

/-- DISPENSE-FAIL (R101). -/
def execDispenseFail (tag : Byte) (words : List Word) (s : State) : Host.Outcome State Fault Refusal :=
  .next (s.request .dispense .dispenseFail tag words)

end Sys2Proof.Machine
end

