-- ==== Sys2Proof/Machine/SettingCommands.lean ====
section
/-! DEFINITION. The meanings of the commands of the settings. -/

namespace Sys2Proof.Machine

open Sys2Proof

/-- The words of a SET (R169): the id, and the value high word first. -/
def setWords (id : Word) (value : BitVec 32) : List Word := id :: words32 value

/-- SET (R169) of a setting that has no row of its own. -/
def execSet (tag : Byte) (words : List Word) (s : State) : Host.Outcome State Fault Refusal :=
  .next (s.request .cell .set tag words)

/-- WRITE_BIN_SET (R14): SET of setting 28. -/
def execWriteBinSet (tag : Byte) (value : BitVec 32) (s : State) : Host.Outcome State Fault Refusal :=
  .next (s.request .cell .set tag (setWords 28 value))

/-- WRITE_DRIFT_MAX (R35): SET of setting 7. -/
def execWriteDriftMax (tag : Byte) (value : BitVec 32) (s : State) : Host.Outcome State Fault Refusal :=
  .next (s.request .cell .set tag (setWords 7 value))

/-- WRITE_WAFER_LOW (R20): SET of setting 29. -/
def execWriteWaferLow (tag : Byte) (value : BitVec 32) (s : State) : Host.Outcome State Fault Refusal :=
  .next (s.request .cell .set tag (setWords 29 value))

/-- WRITE_PLACE_LEAD (R119): SET of setting 18. -/
def execWritePlaceLead (tag : Byte) (value : BitVec 32) (s : State) : Host.Outcome State Fault Refusal :=
  .next (s.request .cell .set tag (setWords 18 value))

/-- GET (R170). -/
def execGet (tag : Byte) (words : List Word) (s : State) : Host.Outcome State Fault Refusal :=
  .next (s.request .cell .get tag words)

end Sys2Proof.Machine
end

