-- ==== Sys2Proof/Machine/ModeCommands.lean ====
section
/-! DEFINITION. The meanings of the commands of the line modes and the soft reset. -/

namespace Sys2Proof.Machine

open Sys2Proof

/-- START (R163). -/
def execStart (tag : Byte) (words : List Word) (s : State) : Host.Outcome State Fault Refusal :=
  .next (s.request .cell .start tag words)

/-- DRAIN (R162). -/
def execDrain (tag : Byte) (words : List Word) (s : State) : Host.Outcome State Fault Refusal :=
  .next (s.request .cell .drain tag words)

/-- RESUME (R162). -/
def execResume (tag : Byte) (words : List Word) (s : State) : Host.Outcome State Fault Refusal :=
  .next (s.request .cell .resume tag words)

/-- HALT (R165). -/
def execHalt (tag : Byte) (words : List Word) (s : State) : Host.Outcome State Fault Refusal :=
  .next (s.request .cell .halt tag words)

/-- STOP (R167). -/
def execStop (tag : Byte) (words : List Word) (s : State) : Host.Outcome State Fault Refusal :=
  .next (s.request .cell .stop tag words)

/-- LEAVING_RUN_REPORT (R164). -/
def execLeavingRunReport (dest : ReportTo) (s : State) : Host.Outcome State Fault Refusal :=
  .next (s.takeReport dest)

/-- RESET (R171, R186). -/
def execReset (tag : Byte) (words : List Word) (s : State) : Host.Outcome State Fault Refusal :=
  .next (s.request .cell .reset tag words)

end Sys2Proof.Machine
end

