-- ==== Sys2Proof/Machine/MapCommands.lean ====
section
/-! DEFINITION. The meanings of the commands of the die map. -/

namespace Sys2Proof.Machine

open Sys2Proof

/-- MAP-OPEN (R4, R5). -/
def execMapOpen (tag : Byte) (words : List Word) (s : State) : Host.Outcome State Fault Refusal :=
  .next (s.request .cell .mapOpen tag words)

/-- MAP-DIE (R6, R7). -/
def execMapDie (tag : Byte) (words : List Word) (s : State) : Host.Outcome State Fault Refusal :=
  .next (s.request .cell .mapDie tag words)

/-- MAP-CLOSE (R8). -/
def execMapClose (tag : Byte) (words : List Word) (s : State) : Host.Outcome State Fault Refusal :=
  .next (s.request .cell .mapClose tag words)

/-- MAP-ABANDON (R9). -/
def execMapAbandon (tag : Byte) (words : List Word) (s : State) : Host.Outcome State Fault Refusal :=
  .next (s.request .cell .mapAbandon tag words)

/-- MAP-ALIGN (R10). -/
def execMapAlign (tag : Byte) (words : List Word) (s : State) : Host.Outcome State Fault Refusal :=
  .next (s.request .cell .mapAlign tag words)

/-- WAFER-CLOSE (R11). -/
def execWaferClose (tag : Byte) (words : List Word) (s : State) : Host.Outcome State Fault Refusal :=
  .next (s.request .cell .waferClose tag words)

/-- RESOLVE (R22). -/
def execResolve (tag : Byte) (words : List Word) (s : State) : Host.Outcome State Fault Refusal :=
  .next (s.request .cell .resolve tag words)

/-- READ-DIE (R12). -/
def execReadDie (tag : Byte) (words : List Word) (s : State) : Host.Outcome State Fault Refusal :=
  .next (s.request .cell .readDie tag words)

end Sys2Proof.Machine
end

