-- ==== Sys2Proof/Machine/TrackCommands.lean ====
section
/-! DEFINITION. The meanings of the commands of the track. -/

namespace Sys2Proof.Machine

open Sys2Proof

/-- STRIP-LOAD (R74). -/
def execStripLoad (tag : Byte) (words : List Word) (s : State) : Host.Outcome State Fault Refusal :=
  .next (s.request .cell .stripLoad tag words)

/-- STRIP-BAD (R75, R76). -/
def execStripBad (tag : Byte) (words : List Word) (s : State) : Host.Outcome State Fault Refusal :=
  .next (s.request .cell .stripBad tag words)

/-- TRACK-CLEAR (R87). -/
def execTrackClear (tag : Byte) (words : List Word) (s : State) : Host.Outcome State Fault Refusal :=
  .next (s.request .cell .trackClear tag words)

/-- INDEX-REQUEST (R78). -/
def execIndexRequest (tag : Byte) (words : List Word) (s : State) : Host.Outcome State Fault Refusal :=
  .next (s.request .cell .indexRequest tag words)

/-- INDEX-DONE (R82). -/
def execIndexDone (tag : Byte) (words : List Word) (s : State) : Host.Outcome State Fault Refusal :=
  .next (s.request .cell .indexDone tag words)

/-- INDEX-CANCEL (R80). -/
def execIndexCancel (tag : Byte) (words : List Word) (s : State) : Host.Outcome State Fault Refusal :=
  .next (s.request .cell .indexCancel tag words)

/-- READ-SITE (R89). -/
def execReadSite (tag : Byte) (words : List Word) (s : State) : Host.Outcome State Fault Refusal :=
  .next (s.request .cell .readSite tag words)

end Sys2Proof.Machine
end

