-- ==== Sys2Proof/Machine/ReportCommands.lean ====
section
/-! DEFINITION. The meanings of the commands of the report unit and the reading requests. -/

namespace Sys2Proof.Machine

open Sys2Proof

/-- READ-STATUS (R155). -/
def execReadStatus (tag : Byte) (words : List Word) (s : State) : Host.Outcome State Fault Refusal :=
  .next (s.request .cell .readStatus tag words)

/-- READ-CLAIMS (R41). -/
def execReadClaims (tag : Byte) (words : List Word) (s : State) : Host.Outcome State Fault Refusal :=
  .next (s.request .cell .readClaims tag words)

/-- READ-STATION (R65). -/
def execReadStation (tag : Byte) (words : List Word) (s : State) : Host.Outcome State Fault Refusal :=
  .next (s.request .cell .readStation tag words)

/-- READ-LOG (R148). -/
def execReadLog (tag : Byte) (words : List Word) (s : State) : Host.Outcome State Fault Refusal :=
  .next (s.request .cell .readLog tag words)

/-- READ-NOTICES (R154). -/
def execReadNotices (tag : Byte) (words : List Word) (s : State) : Host.Outcome State Fault Refusal :=
  .next (s.request .cell .readNotices tag words)

end Sys2Proof.Machine
end

