-- ==== Sys2Proof/Machine/RecoveryCommands.lean ====
section
/-! DEFINITION. The meanings of the commands of recovery and the lamps. -/

namespace Sys2Proof.Machine

open Sys2Proof

/-- HEAD-ENABLE (R198). -/
def execHeadEnable (tag : Byte) (words : List Word) (s : State) : Host.Outcome State Fault Refusal :=
  .next (s.request .cell .headEnable tag words)

/-- FORFEIT (R199). -/
def execForfeit (tag : Byte) (words : List Word) (s : State) : Host.Outcome State Fault Refusal :=
  .next (s.request .cell .forfeit tag words)

/-- LAMP-ACK (R203). -/
def execLampAck (tag : Byte) (words : List Word) (s : State) : Host.Outcome State Fault Refusal :=
  .next (s.request .cell .lampAck tag words)

end Sys2Proof.Machine
end

