-- ==== Sys2Proof/Machine/Dispatch.lean ====
section
/-! DEFINITION. The effect of every command, one arm for each row of spec/opcode_table.json. -/

namespace Sys2Proof.Machine

open Sys2Proof

def exec (i : Instr) (s : State) : Host.Outcome State Fault Refusal :=
  match i with
  | .powerOnReset => Sys2Proof.Machine.execPowerOnReset s
  | .pinReset => Sys2Proof.Machine.execPinReset s
  | .resetRelease kind => Sys2Proof.Machine.execResetRelease kind s
  | .initComplete => Sys2Proof.Machine.execInitComplete s
  | .lineTimeStep => Sys2Proof.Machine.execLineTimeStep s
  | .captureEdge input event => Sys2Proof.Machine.execCaptureEdge input event s
  | .captureAgeLimit input => Sys2Proof.Machine.execCaptureAgeLimit input s
  | .presentationTimerExpiry => Sys2Proof.Machine.execPresentationTimerExpiry s
  | .grantTimerExpiry head => Sys2Proof.Machine.execGrantTimerExpiry head s
  | .placeHoldExpiry head => Sys2Proof.Machine.execPlaceHoldExpiry head s
  | .dispenseHoldExpiry => Sys2Proof.Machine.execDispenseHoldExpiry s
  | .potLifeExpiry strip column row => Sys2Proof.Machine.execPotLifeExpiry strip column row s
  | .heldRequestWaitExpiry port => Sys2Proof.Machine.execHeldRequestWaitExpiry port s
  | .requestFrame port event => Sys2Proof.Machine.execRequestFrame port event s
  | .fetch port event => Sys2Proof.Machine.execFetch port event s
  | .unknownCommand port code tag words => Sys2Proof.Machine.execUnknownCommand port code tag words s
  | .cancel port tag words => Sys2Proof.Machine.execCancel port tag words s
  | .portStatus port tag words => Sys2Proof.Machine.execPortStatus port tag words s
  | .abort port tag words => Sys2Proof.Machine.execAbort port tag words s
  | .clearAbort port tag words => Sys2Proof.Machine.execClearAbort port tag words s
  | .portAbortEntry port => Sys2Proof.Machine.execPortAbortEntry port s
  | .reserve head tag words => Sys2Proof.Machine.execReserve head tag words s
  | .release head tag words => Sys2Proof.Machine.execRelease head tag words s
  | .discard head tag words => Sys2Proof.Machine.execDiscard head tag words s
  | .pick head tag words => Sys2Proof.Machine.execPick head tag words s
  | .picked head tag words => Sys2Proof.Machine.execPicked head tag words s
  | .pickFail head tag words => Sys2Proof.Machine.execPickFail head tag words s
  | .place head tag words => Sys2Proof.Machine.execPlace head tag words s
  | .bonded head tag words => Sys2Proof.Machine.execBonded head tag words s
  | .bondFail head tag words => Sys2Proof.Machine.execBondFail head tag words s
  | .claims head tag words => Sys2Proof.Machine.execClaims head tag words s
  | .awaitOrder tag words => Sys2Proof.Machine.execAwaitOrder tag words s
  | .presented tag words => Sys2Proof.Machine.execPresented tag words s
  | .presentFail tag words => Sys2Proof.Machine.execPresentFail tag words s
  | .nextSite tag words => Sys2Proof.Machine.execNextSite tag words s
  | .dispensed tag words => Sys2Proof.Machine.execDispensed tag words s
  | .dispenseFail tag words => Sys2Proof.Machine.execDispenseFail tag words s
  | .set tag words => Sys2Proof.Machine.execSet tag words s
  | .writeBinSet tag value => Sys2Proof.Machine.execWriteBinSet tag value s
  | .writeDriftMax tag value => Sys2Proof.Machine.execWriteDriftMax tag value s
  | .writeWaferLow tag value => Sys2Proof.Machine.execWriteWaferLow tag value s
  | .writePlaceLead tag value => Sys2Proof.Machine.execWritePlaceLead tag value s
  | .get tag words => Sys2Proof.Machine.execGet tag words s
  | .start tag words => Sys2Proof.Machine.execStart tag words s
  | .drain tag words => Sys2Proof.Machine.execDrain tag words s
  | .resume tag words => Sys2Proof.Machine.execResume tag words s
  | .halt tag words => Sys2Proof.Machine.execHalt tag words s
  | .stop tag words => Sys2Proof.Machine.execStop tag words s
  | .leavingRunReport dest => Sys2Proof.Machine.execLeavingRunReport dest s
  | .reset tag words => Sys2Proof.Machine.execReset tag words s
  | .mapOpen tag words => Sys2Proof.Machine.execMapOpen tag words s
  | .mapDie tag words => Sys2Proof.Machine.execMapDie tag words s
  | .mapClose tag words => Sys2Proof.Machine.execMapClose tag words s
  | .mapAbandon tag words => Sys2Proof.Machine.execMapAbandon tag words s
  | .mapAlign tag words => Sys2Proof.Machine.execMapAlign tag words s
  | .waferClose tag words => Sys2Proof.Machine.execWaferClose tag words s
  | .resolve tag words => Sys2Proof.Machine.execResolve tag words s
  | .readDie tag words => Sys2Proof.Machine.execReadDie tag words s
  | .stripLoad tag words => Sys2Proof.Machine.execStripLoad tag words s
  | .stripBad tag words => Sys2Proof.Machine.execStripBad tag words s
  | .trackClear tag words => Sys2Proof.Machine.execTrackClear tag words s
  | .indexRequest tag words => Sys2Proof.Machine.execIndexRequest tag words s
  | .indexDone tag words => Sys2Proof.Machine.execIndexDone tag words s
  | .indexCancel tag words => Sys2Proof.Machine.execIndexCancel tag words s
  | .readSite tag words => Sys2Proof.Machine.execReadSite tag words s
  | .readStatus tag words => Sys2Proof.Machine.execReadStatus tag words s
  | .readClaims tag words => Sys2Proof.Machine.execReadClaims tag words s
  | .readStation tag words => Sys2Proof.Machine.execReadStation tag words s
  | .readLog tag words => Sys2Proof.Machine.execReadLog tag words s
  | .readNotices tag words => Sys2Proof.Machine.execReadNotices tag words s
  | .headEnable tag words => Sys2Proof.Machine.execHeadEnable tag words s
  | .forfeit tag words => Sys2Proof.Machine.execForfeit tag words s
  | .lampAck tag words => Sys2Proof.Machine.execLampAck tag words s

end Sys2Proof.Machine
end

