-- ==== Sys2Proof/Machine/Step.lean ====
section
/-! DEFINITION. One step of the part: the command at the front of the queue takes its effect. -/

namespace Sys2Proof.Machine

open Sys2Proof

/-- The state with the given commands waiting. -/
def State.withPending (s : State) (cs : List Instr) : State := { s with pending := cs }

/-- The command at the front of the queue is taken, and runs on the state with the rest of the queue. An empty queue
leaves the part as it is (log entry 2). -/
def step (s : State) : Host.Outcome State Fault Refusal :=
  match s.pending with
  | [] => .next s
  | c :: rest => exec c (s.withPending rest)

/-- The state with the command that a table word spells at the front of its queue. No table word spells one (Decode). -/
def State.withFetchWord (s : State) (nbits w : Nat) : State :=
  match decodeTableWord nbits w with
  | none => s
  | some c => s.withPending (c :: s.pending)

end Sys2Proof.Machine
end

