-- ==== Sys2Proof/Safety.lean ====
section
/-! DEFINITION. What a sound state of the part is, in the terms the claims use: the laws that every step keeps, and the
conditions under which a port takes a request at once. -/

namespace Sys2Proof

open Sys2Proof.Machine

/-- The requests that can be held on a port (R182): RESERVE, PICK and PLACE on a head port, AWAIT-ORDER on the table
port, NEXT-SITE on the dispense port, none on the cell port. -/
def Port.mayHold (p : Port) (code : Byte) : Bool :=
  match p with
  | .cell => false
  | .headA => code == Command.reserve.code || code == Command.pick.code || code == Command.place.code
  | .headB => code == Command.reserve.code || code == Command.pick.code || code == Command.place.code
  | .table => code == Command.awaitOrder.code
  | .dispense => code == Command.nextSite.code

/-- A request by its name. -/
def Machine.Command.request (c : Command) (tag : Byte) (words : List Word) : Request := ⟨c.code, tag, words⟩

/-- The word counts a request carries (R188): MAP-DIE an odd count within 3..23, every other request one count. -/
def Machine.Command.countOk (c : Command) (n : Nat) : Bool :=
  match c with
  | .mapDie => n % 2 == 1 && decide (3 ≤ n) && decide (n ≤ 23)
  | .mapOpen => n == 18
  | .mapAlign => n == 14
  | .bondFail | .dispenseFail => n == 4
  | .bonded | .presented | .dispensed | .set | .stripLoad | .stripBad => n == 3
  | .discard | .pickFail | .presentFail | .resolve | .readSite | .headEnable => n == 2
  | .release | .pick | .picked | .place | .get | .readDie | .indexRequest | .readStatus | .readClaims | .readLog
  | .readNotices | .forfeit => n == 1
  | .cancel | .portStatus | .abort | .clearAbort | .reserve | .claims | .awaitOrder | .nextSite | .start | .drain
  | .resume | .halt | .stop | .reset | .mapClose | .mapAbandon | .waferClose | .trackClear | .indexDone | .indexCancel
  | .readStation | .lampAck => n == 0

/-- The reason or disposition word of a request that has one as its last word and meets its check before the mode's
(R168) is 0 or 1: DISCARD, PICK-FAIL, PRESENT-FAIL, BOND-FAIL and DISPENSE-FAIL. -/
def Machine.Command.codeWordOk (c : Command) (ws : List Word) : Bool :=
  match c with
  | .discard | .pickFail | .presentFail => decide (natAt ws 1 ≤ 1)
  | .bondFail | .dispenseFail => decide (natAt ws 3 ≤ 1)
  | _ => true

/-- The availability table (R168) for a request that reaches its block, the modes of a SET aside. In HALT a request of
ports 1 to 4 reaches its block only before its port's entry into abort, and finds itself unavailable (R165). -/
def Machine.Command.availableIn (c : Command) (m : LineMode) : Bool :=
  match c with
  | .reserve | .nextSite => m == .run
  | .release | .pick | .picked | .pickFail | .place | .bonded | .bondFail | .discard | .dispensed | .dispenseFail =>
    m == .run || m == .drain
  | .awaitOrder | .presented | .presentFail => m == .setup || m == .run || m == .drain
  | .start | .trackClear => m == .setup
  | .drain => m == .run || m == .halt
  | .resume => m == .drain || m == .halt
  | .halt => m == .run || m == .drain
  | .stop => m == .run || m == .drain || m == .halt
  | .indexRequest => m != .halt
  | _ => true

/-- A mode-change request that is not available names the mode that stands (R162); every other one gives no words. -/
def Machine.Command.modeWords (c : Command) (m : LineMode) : List Word :=
  match c with
  | .start | .drain | .resume | .halt | .stop => [word m.code]
  | _ => []

/-- The request frame that a request row stands for, with its port; none for a row that is no whole request frame. -/
def Instr.requestOf : Instr → Option (Port × Request)
  | .powerOnReset => none
  | .pinReset => none
  | .resetRelease _ => none
  | .initComplete => none
  | .lineTimeStep => none
  | .captureEdge _ _ => none
  | .captureAgeLimit _ => none
  | .presentationTimerExpiry => none
  | .grantTimerExpiry _ => none
  | .placeHoldExpiry _ => none
  | .dispenseHoldExpiry => none
  | .potLifeExpiry _ _ _ => none
  | .heldRequestWaitExpiry _ => none
  | .requestFrame _ _ => none
  | .fetch _ _ => none
  | .unknownCommand p code tag ws => some (p, ⟨code, tag, ws⟩)
  | .cancel p tag ws => some (p, Command.cancel.request tag ws)
  | .portStatus p tag ws => some (p, Command.portStatus.request tag ws)
  | .abort p tag ws => some (p, Command.abort.request tag ws)
  | .clearAbort p tag ws => some (p, Command.clearAbort.request tag ws)
  | .portAbortEntry _ => none
  | .reserve h tag ws => some (h.port, Command.reserve.request tag ws)
  | .release h tag ws => some (h.port, Command.release.request tag ws)
  | .discard h tag ws => some (h.port, Command.discard.request tag ws)
  | .pick h tag ws => some (h.port, Command.pick.request tag ws)
  | .picked h tag ws => some (h.port, Command.picked.request tag ws)
  | .pickFail h tag ws => some (h.port, Command.pickFail.request tag ws)
  | .place h tag ws => some (h.port, Command.place.request tag ws)
  | .bonded h tag ws => some (h.port, Command.bonded.request tag ws)
  | .bondFail h tag ws => some (h.port, Command.bondFail.request tag ws)
  | .claims h tag ws => some (h.port, Command.claims.request tag ws)
  | .awaitOrder tag ws => some (.table, Command.awaitOrder.request tag ws)
  | .presented tag ws => some (.table, Command.presented.request tag ws)
  | .presentFail tag ws => some (.table, Command.presentFail.request tag ws)
  | .nextSite tag ws => some (.dispense, Command.nextSite.request tag ws)
  | .dispensed tag ws => some (.dispense, Command.dispensed.request tag ws)
  | .dispenseFail tag ws => some (.dispense, Command.dispenseFail.request tag ws)
  | .set tag ws => some (.cell, Command.set.request tag ws)
  | .writeBinSet tag value => some (.cell, Command.set.request tag (setWords 28 value))
  | .writeDriftMax tag value => some (.cell, Command.set.request tag (setWords 7 value))
  | .writeWaferLow tag value => some (.cell, Command.set.request tag (setWords 29 value))
  | .writePlaceLead tag value => some (.cell, Command.set.request tag (setWords 18 value))
  | .get tag ws => some (.cell, Command.get.request tag ws)
  | .start tag ws => some (.cell, Command.start.request tag ws)
  | .drain tag ws => some (.cell, Command.drain.request tag ws)
  | .resume tag ws => some (.cell, Command.resume.request tag ws)
  | .halt tag ws => some (.cell, Command.halt.request tag ws)
  | .stop tag ws => some (.cell, Command.stop.request tag ws)
  | .leavingRunReport _ => none
  | .reset tag ws => some (.cell, Command.reset.request tag ws)
  | .mapOpen tag ws => some (.cell, Command.mapOpen.request tag ws)
  | .mapDie tag ws => some (.cell, Command.mapDie.request tag ws)
  | .mapClose tag ws => some (.cell, Command.mapClose.request tag ws)
  | .mapAbandon tag ws => some (.cell, Command.mapAbandon.request tag ws)
  | .mapAlign tag ws => some (.cell, Command.mapAlign.request tag ws)
  | .waferClose tag ws => some (.cell, Command.waferClose.request tag ws)
  | .resolve tag ws => some (.cell, Command.resolve.request tag ws)
  | .readDie tag ws => some (.cell, Command.readDie.request tag ws)
  | .stripLoad tag ws => some (.cell, Command.stripLoad.request tag ws)
  | .stripBad tag ws => some (.cell, Command.stripBad.request tag ws)
  | .trackClear tag ws => some (.cell, Command.trackClear.request tag ws)
  | .indexRequest tag ws => some (.cell, Command.indexRequest.request tag ws)
  | .indexDone tag ws => some (.cell, Command.indexDone.request tag ws)
  | .indexCancel tag ws => some (.cell, Command.indexCancel.request tag ws)
  | .readSite tag ws => some (.cell, Command.readSite.request tag ws)
  | .readStatus tag ws => some (.cell, Command.readStatus.request tag ws)
  | .readClaims tag ws => some (.cell, Command.readClaims.request tag ws)
  | .readStation tag ws => some (.cell, Command.readStation.request tag ws)
  | .readLog tag ws => some (.cell, Command.readLog.request tag ws)
  | .readNotices tag ws => some (.cell, Command.readNotices.request tag ws)
  | .headEnable tag ws => some (.cell, Command.headEnable.request tag ws)
  | .forfeit tag ws => some (.cell, Command.forfeit.request tag ws)
  | .lampAck tag ws => some (.cell, Command.lampAck.request tag ws)

end Sys2Proof

namespace Sys2Proof.Machine

open Sys2Proof

/-! ## Laws of the link units -/

/-- The entries of a reply queue that are in use or promised: its replies, and the one kept free for a held request
(R182, R183). -/
def Link.owed (l : Link) : Nat := l.replies.length + bit l.held.isSome

/-- A link unit's queues are within their capacities, the promised entry counted (R179, R180, R183). -/
def Link.Bounded (l : Link) : Prop :=
  l.requests.length ≤ Config.requestCapacity ∧ l.owed ≤ Config.replyCapacity

/-- Every link unit's queues are within their capacities. -/
def State.LinksBounded (s : State) : Prop := ∀ p, (s.link p).Bounded

/-- Between two events no port can take a queued request (R181). -/
def State.Settled (s : State) : Prop := s.ready = []

/-- A held-request slot holds a request of its port's role, and an aborted port holds none (R182, R184). -/
def State.HeldLegal (s : State) : Prop :=
  ∀ p h, (s.link p).held = some h → p.mayHold h.request.code = true ∧ (s.link p).causes = []

/-! ## Laws of the report unit and the die map -/

/-- The log and both claim lists fit the log together (R43). -/
def State.LogRoom (s : State) : Prop := s.logSum ≤ Config.logCapacity

/-- The notice queue is within its capacity, and notices have been dropped only while it is full (R151, R153). -/
def State.NoticesBounded (s : State) : Prop :=
  s.report.notices.length ≤ Config.noticeCapacity
    ∧ (0 < s.report.dropped → s.report.notices.length = Config.noticeCapacity)

/-- The records of the table in a state. -/
def DieMap.inState (m : DieMap) (d : DieState) : Nat := m.table.countP fun r => r.state == d

/-- While a map is loaded, the next index and the nine per-state counts are those of the die table (R3, R6), and while
it is READY the eligible-available count is the number of eligible die (R13). -/
def State.MapCounted (s : State) : Prop :=
  s.map.phase ≠ .none →
    s.map.nextIndex = s.map.table.length
      ∧ (∀ d, s.map.counts.get d = s.map.inState d)
      ∧ (s.readyWafer.isSome → s.map.eligible = s.countEligible)

/-- In INIT no map is loaded and no request waits (R160, R161). -/
def State.InitEmpty (s : State) : Prop :=
  s.mode = .init → s.map.phase = .none ∧ ∀ p, (s.link p).requests = []

/-- Both drift accumulators lie within DRIFT-MAX (R24). -/
def State.DriftBounded (s : State) : Prop :=
  s.drift.dx.natAbs ≤ s.settings.driftMax ∧ s.drift.dy.natAbs ≤ s.settings.driftMax

/-- Every setting holds a value that a write of it would store unchanged: one within its range, and for a configuration
word one with every unused bit 0 (R169; 09, settings table). -/
def Settings.InRange (t : Settings) : Prop :=
  ∀ id, settingKnown id = true →
    storedValue id (t.get id) = t.get id ∧ (isConfig id = true → configOk id (t.get id) = true)

/-! ## A port that takes a request at once -/

/-- The part is out of reset and INIT, no port has a request waiting, and the port holds none and has room for a
reply: a request that arrives on it is taken in the event of its arrival (R174, R181), aborted or not. -/
structure State.Open (s : State) (p : Port) : Prop where
  running : s.inReset = false
  started : s.mode ≠ .init
  empty : ∀ q, (s.link q).requests = []
  free : (s.link p).held = none
  room : (s.link p).replies.length ≤ 7

/-- An open port that is not aborted: a request of its role that arrives on it is handed to its block in the event of
its arrival (R181). -/
structure State.Idle (s : State) (p : Port) : Prop extends State.Open s p where
  serving : (s.link p).causes = []

/-- No port holds a request, and neither the waiting queue nor the placer queue holds an entry for one. -/
structure State.NothingHeld (s : State) : Prop where
  slots : ∀ q, (s.link q).held = none
  waiting : s.arbiter.waiting = []
  placers : s.placement.queue = []

/-- The state at the end of a request frame on a part that takes frames, before its request is acted on: SEL is high, and
a lost flag that the frame's status byte showed is clear (R174, R176). -/
def State.framed (s : State) (p : Port) (r : Request) : State :=
  s.setLink p { s.link p with
    selectLow := false
    frame := none
    lost := false
    sdo := s.statusByte p :: List.replicate (2 + 2 * r.words.length) 0 }

/-- The state in which a block meets a request that its idle port takes in the event of its arrival: the frame has
ended, and the fresh flag is clear (R177). -/
def State.accepted (s : State) (p : Port) (r : Request) : State := (s.framed p r).clearFresh p

/-- `accepted` for a request by its name. -/
def State.handed (s : State) (p : Port) (c : Command) (tag : Byte) (words : List Word) : State :=
  s.accepted p (c.request tag words)

/-- The state in which a request that its idle port takes has been answered, and nothing else has changed. -/
def State.answered (s : State) (p : Port) (r : Request) (code : ReplyCode) (ws : List Word) : State :=
  (s.accepted p r).reply p r.tag code ws

/-- A link unit after the link unit's own steps of an entry into abort (R192, steps 1 to 3): the request queue flushed
and counted, a held request answered ABORTED, the cause recorded with the line time. -/
def Link.aborted (l : Link) (c : AbortCause) (sticky : Bool) (now : Time) : Link :=
  { l with
    requests := []
    flushed := min 255 (l.flushed + l.requests.length)
    replies := l.replies ++ (l.held.map fun h => ⟨h.request.tag, .aborted, []⟩).toList
    held := none
    causes := [⟨c, sticky⟩]
    firstCause := some now }

/-- A link unit whose held request has been answered (R182). -/
def Link.answer (l : Link) (h : Held) (code : ReplyCode) (ws : List Word) : Link :=
  { l with held := none, replies := l.replies ++ [⟨h.request.tag, code, ws⟩] }

end Sys2Proof.Machine
end

