-- ==== Sys2Proof/Certificates/Slice0/Obligations.lean ====
section
/-! DEFINITION. The statements about the DX48 model. A request is stated on a port that is open or idle (Safety): it is
taken in the event of its arrival. A statement that gives the whole next state says by that what is unchanged. -/

open Sys2Proof Sys2Proof.Machine

/-! ## The queue of commands, and the laws that every step keeps -/

/-- A step takes the command at the front of the queue and runs it on the state with the rest of the queue; an empty
queue leaves the part as it is (the model's choice, log entry 2). -/
def Obligations.StepRunsTheFrontCommand : Prop :=
  (∀ (c : Instr) (rest : List Instr) (s : State), step (s.withPending (c :: rest)) = exec c (s.withPending rest))
    ∧ ∀ s : State, s.pending = [] → step s = .next s

/-- Every command leads to a next state and leaves the command queue alone. Line time is written by LINE_TIME_STEP and
the two hardware resets alone (R134), and the two causes of reset by the reset commands alone (R172). -/
def Obligations.EveryCommandCompletesAndNoRequestWritesLineTime : Prop :=
  ∀ (c : Instr) (s : State), ∃ t, exec c s = .next t ∧ t.pending = s.pending
    ∧ (c ≠ .powerOnReset → c ≠ .pinReset → c ≠ .lineTimeStep → t.lineTime = s.lineTime)
    ∧ (c ≠ .powerOnReset → c ≠ .pinReset → (∀ k, c ≠ .resetRelease k) →
        t.supplyLow = s.supplyLow ∧ t.resetLow = s.resetLow)

/-- The machine right after a power-on reset is released: the values of the reset tables (R23, R38, R67, R90, R109,
R133, R144, R159, R172, R190, R200, R204). -/
def Obligations.ResetStateHoldsTheResetValues : Prop :=
  let s := State.reset
  s.mode = .init ∧ s.lineTime = 0 ∧ s.settings = Settings.default
    ∧ s.headEnabled.get .A = true ∧ s.headEnabled.get .B = true
    ∧ s.map.phase = .none ∧ s.map.nextIndex = 0 ∧ s.map.eligible = 0 ∧ (∀ d, s.map.counts.get d = 0)
    ∧ s.map.returned = [] ∧ s.map.cursor = 0 ∧ s.map.rescan = false
    ∧ s.map.waferLow = false ∧ s.map.waferEmpty = false
    ∧ s.drift.dx = 0 ∧ s.drift.dy = 0
    ∧ (∀ h, s.claimsOf h = []) ∧ s.arbiter.station = .free ∧ s.arbiter.waiting = []
    ∧ s.arbiter.presentTimer = none ∧ (∀ h, s.arbiter.grantTimer.get h = none)
    ∧ (∀ i : Fin 64, s.track.ring[i] = none) ∧ s.track.entry = 0 ∧ s.track.strips = []
    ∧ s.track.phase = .still
    ∧ s.dispenser.site = none ∧ s.dispenser.hold = none ∧ s.dispenser.wet = 0
    ∧ s.placement.queue = [] ∧ (∀ h, s.assignedOf h = none ∧ s.placement.hold.get h = none)
    ∧ (∀ i, (s.line i).queue = [] ∧ (s.line i).stray = 0 ∧ (s.line i).lost = 0)
    ∧ s.report.log = [] ∧ s.report.nextSeq = 0 ∧ s.report.notices = [] ∧ s.report.dropped = 0
    ∧ (∀ p, (s.link p).requests = [] ∧ (s.link p).replies = [] ∧ (s.link p).held = none ∧ (s.link p).lost = false
        ∧ (s.link p).lostFrames = 0 ∧ (s.link p).fresh = true ∧ (s.link p).causes = [] ∧ (s.link p).flushed = 0
        ∧ (s.link p).firstCause = none ∧ s.attnConfig p = 0x0011 ∧ s.attn p = false)
    ∧ s.spoilLatch = false ∧ (∀ k, s.lampLevel k = false)

/-- The laws that every step keeps hold at reset. -/
def Obligations.ResetStateKeepsEveryLaw : Prop :=
  State.reset.LinksBounded ∧ State.reset.HeldLegal ∧ State.reset.Settled ∧ State.reset.LogRoom
    ∧ State.reset.NoticesBounded ∧ State.reset.InitEmpty ∧ State.reset.MapCounted ∧ State.reset.settings.InRange
    ∧ State.reset.DriftBounded

/-- No port ever holds more than four requests, or more replies than its queue has room for with one entry kept for its
held request (R179, R180, R183); a slot holds only a request of its port's role, and an aborted port holds none (R182,
R184). -/
def Obligations.StepKeepsPortQueuesBounded : Prop :=
  ∀ s t : State, s.LinksBounded → s.HeldLegal → step s = .next t → t.LinksBounded ∧ t.HeldLegal

/-- After every event, no port is left that could take a queued request (R181). -/
def Obligations.StepLeavesNoRequestThatCouldBeTaken : Prop :=
  ∀ s t : State, s.LinksBounded → s.HeldLegal → s.Settled → step s = .next t → t.Settled

/-- The number of bond records plus the entries of both claim lists never exceeds 256 (R43), so the log always has room
for a bond (R126). -/
def Obligations.StepKeepsLogRoomForEveryClaim : Prop :=
  ∀ s t : State, s.LogRoom → step s = .next t → t.LogRoom

/-- The notice queue never holds more than 32 notices, and the dropped-notice count is above zero only while it is full
(R151, R153). -/
def Obligations.StepKeepsNoticeQueueBounded : Prop :=
  ∀ s t : State, s.NoticesBounded → step s = .next t → t.NoticesBounded

/-- While a map is loaded, the next index and the nine per-state counts are those of the die table, and the
eligible-available count of a READY map is the number of its eligible die (R3, R6, R13). The premise rules out states
in which INIT meets a loaded map or a waiting request, which no run reaches; it is kept as well. -/
def Obligations.StepKeepsDieCountsTrue : Prop :=
  ∀ s t : State, s.InitEmpty → s.MapCounted → step s = .next t → t.InitEmpty ∧ t.MapCounted

/-- Every setting stays within its range (R169), and both drift accumulators stay within DRIFT-MAX (R24). -/
def Obligations.StepKeepsSettingsAndDriftInRange : Prop :=
  ∀ s t : State, s.settings.InRange → s.DriftBounded → step s = .next t → t.settings.InRange ∧ t.DriftBounded

/-! ## Resets, line time and capture -/

/-- POWER_ON_RESET and PIN_RESET put every piece of state at its power-on value and keep the queue, the choices made,
the levels of the capture pins and of SEL, and the die memory, which is cleared only in INIT (R172, R161; log entries 13,
14 and 25).
RESET_RELEASE ends one cause; the last one begins INIT, with an input that is high then recording no edge until it has
gone low (R137). INIT_COMPLETE clears the die memory and enters SETUP (R161). A release of a cause not in force, and an
INIT_COMPLETE outside INIT, change nothing (log entry 5). -/
def Obligations.ResetCommandsHoldReleaseAndInitialise : Prop :=
  ∀ s : State,
    (∀ supply pin : Bool,
      s.heldInReset supply pin = { State.reset with
        pending := s.pending
        choices := s.choices
        supplyLow := supply
        resetLow := pin
        map := { DieMap.reset with table := s.map.table, bitmap := s.map.bitmap }
        capture := ⟨CaptureLine.reset s.capture.shot.pin, CaptureLine.reset s.capture.tda.pin,
          CaptureLine.reset s.capture.tdb.pin⟩
        links := s.links.map fun l => { Link.reset with selectLow := l.selectLow } })
    ∧ exec .powerOnReset s = .next (s.heldInReset true s.resetLow)
    ∧ exec .pinReset s = .next (s.heldInReset s.supplyLow true)
    ∧ (s.supplyLow = true → s.resetLow = true →
        exec (.resetRelease .powerOn) s = .next { s with supplyLow := false }
          ∧ exec (.resetRelease .pin) s = .next { s with resetLow := false })
    ∧ (s.supplyLow = true → s.resetLow = false →
        exec (.resetRelease .powerOn) s = .next { s with
          supplyLow := false
          capture := s.capture.map fun c => { c with pin := if c.pin = .low then .low else .high } })
    ∧ (s.supplyLow = false → s.resetLow = true →
        exec (.resetRelease .pin) s = .next { s with
          resetLow := false
          capture := s.capture.map fun c => { c with pin := if c.pin = .low then .low else .high } })
    ∧ (s.supplyLow = false → exec (.resetRelease .powerOn) s = .next s)
    ∧ (s.resetLow = false → exec (.resetRelease .pin) s = .next s)
    ∧ (s.mode = .init → s.inReset = false →
        exec .initComplete s = .next { s with mode := .setup, map := { s.map with table := [], bitmap := [] } })
    ∧ (s.mode ≠ .init ∨ s.inReset = true → exec .initComplete s = .next s)

/-- RESET with no words on the cell port (R171, R186): whatever the cell port's abort state, held requests or reply
queue, the part's work is emptied without a reply, and the settings, the line time, the pin levels and the die memory
are kept. RESET with words is answered BADPARAM and resets nothing. That the leaving-RUN reports not yet taken go as well
is the model's DESIGN CHOICE (log entry 7): neither rule names them. -/
def Obligations.ResetEmptiesTheWorkAndKeepsTheSettings : Prop :=
  ∀ (s : State) (tag : Byte),
    (s.inReset = false → s.mode ≠ .init →
      ∃ t, exec (.reset tag []) s = .next t
        ∧ t = { State.reset with
            pending := s.pending
            choices := s.choices
            mode := .setup
            lineTime := s.lineTime
            settings := s.settings
            map := { DieMap.reset with table := s.map.table, bitmap := s.map.bitmap }
            capture := ⟨CaptureLine.reset s.capture.shot.pin, CaptureLine.reset s.capture.tda.pin,
              CaptureLine.reset s.capture.tdb.pin⟩
            links := t.links }
        ∧ t.link .cell = { Link.reset with sdo := [s.statusByte .cell, 0, 0] }
        ∧ ∀ p, p ≠ .cell → t.link p = { Link.reset with
            selectLow := (s.link p).selectLow
            frame := (s.link p).frame.map fun f => { f with live := false }
            sdo := (s.link p).sdo })
    ∧ ∀ words, words ≠ [] → words.length ≤ 24 → s.Open .cell →
        exec (.reset tag words) s = .next (s.answered .cell (Command.reset.request tag words) .badparam [])

/-- LINE_TIME_STEP raises the line time by one, modulo 2^32, and changes nothing else when no timer is due at the
present line time (R134, R142). What is due is taken first, one event each as its expiry row takes it, in an order that is
free (R142, R143; log entries 3 and 4): the timers whose expiry time the line time is not earlier than, and the capture
entries that have reached their age limit. At a line time of 2 or more the step ends an INIT that has not ended (R161; log
entry 4). While a reset is in force the line time stays as it is (R135). -/
def Obligations.LineTimeStepRaisesLineTimeByOne : Prop :=
  (∀ s : State,
    (s.inReset = false → s.due = [] → (s.mode = .init → s.lineTime.toNat < 2) →
      exec .lineTimeStep s = .next { s with lineTime := s.lineTime + 1 })
    ∧ (s.inReset = false → s.due = [] → s.mode = .init → 2 ≤ s.lineTime.toNat →
      exec .lineTimeStep s = .next { s with
        mode := .setup
        map := { s.map with table := [], bitmap := [] }
        lineTime := s.lineTime + 1 })
    ∧ (s.inReset = false → ∃ t, exec .lineTimeStep s = .next t ∧ t.lineTime = s.lineTime + 1)
    ∧ (s.inReset = true → exec .lineTimeStep s = .next s))
    ∧ (∀ s u : State, s.inReset = false → u = takeDueFor s.due.length s →
      exec .lineTimeStep s = .next (if u.mode = .init ∧ 2 ≤ s.lineTime.toNat then { u with
          mode := .setup
          map := { u.map with table := [], bitmap := [] }
          lineTime := s.lineTime + 1 }
        else { u with lineTime := s.lineTime + 1 }))
    ∧ (∀ s : State, takeDueFor 0 s = s ∧ ∀ n, s.due = [] → takeDueFor n s = s)
    ∧ (∀ (s : State) (n : Nat) (t : Timer), s.due = [t] → takeDueFor (n + 1) s = takeDueFor n (s.expire t).settle)
    ∧ (∀ (s : State) (n : Nat), 2 ≤ s.due.length → ∃ t ∈ s.due,
      takeDueFor (n + 1) s = takeDueFor n ((({ s with choices := s.choices + 1 }).expire t).settle))
    ∧ (∀ (s : State) (i : Instr) (t : Timer), t ∈ s.due →
      ((i = .presentationTimerExpiry ∧ t = .presentation)
        ∨ (∃ h, i = .grantTimerExpiry h ∧ t = .grant h)
        ∨ (∃ h, i = .placeHoldExpiry h ∧ t = .placeHold h)
        ∨ (i = .dispenseHoldExpiry ∧ t = .dispenseHold)
        ∨ (∃ strip column row, i = .potLifeExpiry strip column row ∧ t = .potLife strip column row)
        ∨ (∃ p, i = .heldRequestWaitExpiry p ∧ t = .wait p)
        ∨ (∃ c, i = .captureAgeLimit c ∧ t = .age c)) →
      exec i s = .next (s.expire t).settle)
    ∧ ∀ (s : State) (out : Option Time → Prop), (∀ e, out e ↔ ∃ t, e = some t ∧ (s.lineTime - t).toNat < 2 ^ 31) →
      (.presentation ∈ s.due ↔ out s.arbiter.presentTimer)
      ∧ (∀ h, .grant h ∈ s.due ↔ out (s.arbiter.grantTimer.get h))
      ∧ (∀ h, .placeHold h ∈ s.due ↔ out (s.placement.hold.get h))
      ∧ (.dispenseHold ∈ s.due ↔ out s.dispenser.hold)
      ∧ (∀ strip column row, .potLife strip column row ∈ s.due
        ↔ ∃ p x, s.findSite strip column row = some (p, x) ∧ out x.potExpiry)
      ∧ (∀ p, .wait p ∈ s.due ↔ ∃ x, (s.link p).held = some x ∧ out x.expiry)
      ∧ ∀ i, .age i ∈ s.due ↔ ∃ t rest, (s.line i).queue = t :: rest ∧ (s.lineTime - (t + 60000)).toNat < 2 ^ 31

/-- CAPTURE_EDGE: an input that has risen and stayed high for 2 µs records the line time as the newest entry of its
queue, or, when the queue is full, raises its lost count up to 65,535 (R137, R138, R140). A rise begins an edge only
from low, a fall ends it, and nothing is recorded otherwise, nor while a reset is in force (R144). -/
def Obligations.QualifiedEdgeIsRecordedOrLost : Prop :=
  ∀ (s : State) (i : CaptureInput),
    (s.inReset = false → (s.line i).pin = .rising →
      exec (.captureEdge i .staysHigh) s = .next (s.setCapture i
        (if (s.line i).queue.length < CaptureInput.capacity i then
          { s.line i with queue := (s.line i).queue ++ [s.lineTime], pin := .high }
        else { s.line i with lost := min ((s.line i).lost + 1) 65535, pin := .high })))
    ∧ ((s.line i).pin ≠ .rising ∨ s.inReset = true →
      exec (.captureEdge i .staysHigh) s = .next (s.setCapture i
        { s.line i with pin := if (s.line i).pin = .low then .low else .high }))
    ∧ exec (.captureEdge i .rises) s = .next (s.setCapture i
        { s.line i with pin := if (s.line i).pin = .high then .high else .rising })
    ∧ exec (.captureEdge i .falls) s = .next (s.setCapture i { s.line i with pin := .low })

/-- CAPTURE_AGE_LIMIT: the oldest entry of a capture queue whose age has reached 60,000 ms is removed and counted as
stray, up to 65,535; a younger one stays (R139, R140), and an empty queue has no such event (log entry 5). -/
def Obligations.AgeLimitRemovesTheOldestEntryAsStray : Prop :=
  ∀ (s : State) (i : CaptureInput), s.Settled →
    (∀ (t : Time) (rest : List Time), (s.line i).queue = t :: rest →
      exec (.captureAgeLimit i) s = .next
        (if (s.lineTime - (t + 60000)).toNat < 2 ^ 31 then
          s.setCapture i { s.line i with queue := rest, stray := min ((s.line i).stray + 1) 65535 }
        else s))
    ∧ ((s.line i).queue = [] → exec (.captureAgeLimit i) s = .next s)

/-! ## Frames and the taking of requests -/

/-- The bytes of a request frame carry exactly one request, and every request of at most 24 words has such a frame
(R174): a frame is well formed, with no bit after its last whole byte, if and only if its bytes are those of the request
that the part reads from it. -/
def Obligations.RequestFrameBytesCarryExactlyOneRequest : Prop :=
  ∀ (bytes : List Byte) (extraBits : Nat) (r : Request),
    parseFrame bytes extraBits = some r ↔ extraBits = 0 ∧ r.words.length ≤ 24 ∧ bytes = frameBytes r

/-- REQUEST_FRAME. SEL goes low as the frame begins and high as it ends (R173); the status byte is formed as the first
byte begins (R175). A frame that ends in INIT, a malformed one, one that finds four requests waiting, and an immediate
request without room for its reply is discarded: the lost flag is set and the lost-frame counter rises, up to 65,535 (R174,
R176, R179, R183); a RESET without words needs no room. A well-formed one that the port cannot take yet joins the queue as
the newest entry. A frame of no whole byte, and any frame while a reset is in force, changes nothing else (R172, R173). A
request row is its whole frame, its beginning and its end. That a frame whose beginning the part has not seen shows the
status byte of its end is the model's DESIGN CHOICE (log entry 23). -/
def Obligations.RequestFrameIsQueuedOrLost : Prop :=
  (∀ (s : State) (p : Port),
    exec (.requestFrame p .selected) s = .next (s.setLink p { s.link p with selectLow := true })
    ∧ (s.inReset = false → exec (.requestFrame p .begins) s = .next (s.setLink p { s.link p with
        selectLow := true
        frame := some ⟨s.statusByte p, (s.link p).replies.head?, true⟩ }))
    ∧ (s.inReset = true →
        exec (.requestFrame p .begins) s = .next (s.setLink p { s.link p with selectLow := true }))
    ∧ (∀ bytes extra, s.inReset = true ∨ bytes = [] → exec (.requestFrame p (.ends bytes extra)) s
        = .next (s.setLink p { s.link p with selectLow := false, frame := none }))
    ∧ ∀ (b : Byte) (rest : List Byte) (extra : Nat) (f : OpenFrame), s.inReset = false → b ≠ 0 →
        f = (s.link p).frame.getD ⟨s.statusByte p, (s.link p).replies.head?, true⟩ →
        (s.mode = .init ∨ parseFrame (b :: rest) extra = none
            ∨ (∃ r, parseFrame (b :: rest) extra = some r ∧ p.isImmediate r.code = false
                ∧ 4 ≤ (s.link p).requests.length)
            ∨ (∃ r, parseFrame (b :: rest) extra = some r ∧ p.isImmediate r.code = true
                ∧ (r.code = Command.reset.code → r.words ≠ [])
                ∧ (8 ≤ (s.link p).replies.length ∨ ((s.link p).held.isSome ∧ 7 ≤ (s.link p).replies.length))) →
          exec (.requestFrame p (.ends (b :: rest) extra)) s = .next (s.setLink p { s.link p with
            selectLow := false
            frame := none
            lost := true
            lostFrames := min ((s.link p).lostFrames + 1) 65535
            sdo := f.status :: List.replicate rest.length 0 }))
        ∧ ∀ r, s.mode ≠ .init → parseFrame (b :: rest) extra = some r → p.isImmediate r.code = false →
            (s.link p).requests.length < 4 → ((s.link p).held.isSome ∨ 8 ≤ (s.link p).replies.length) → s.Settled →
            exec (.requestFrame p (.ends (b :: rest) extra)) s = .next (s.setLink p { s.link p with
              selectLow := false
              frame := none
              lost := (s.link p).lost && !f.status.getLsbD 0
              requests := (s.link p).requests ++ [r]
              sdo := f.status :: List.replicate rest.length 0 }))
    ∧ (∀ (p : Port) (r : Request), p.isImmediate r.code = true ↔ r.code = Command.cancel.code
        ∨ r.code = Command.portStatus.code ∨ (p = .cell ∧ r.code = Command.reset.code))
    ∧ ∀ (s u : State) (i : Instr) (p : Port) (r : Request), i.requestOf = some (p, r) →
      (exec (.requestFrame p .begins) s = .next u → exec i s = exec (.requestFrame p (.ends (frameBytes r) 0)) u)
      ∧ ((s.link p).frame = none → exec (.requestFrame p (.ends (frameBytes r) 0)) s = exec i s)

/-- FETCH. The status byte is formed as the first byte begins, and the reply to shift out is fixed as it completes
(R175, R178). A fetch that shifts out the last byte of that reply removes it from the queue; a shorter one, and one that
finds no reply, removes nothing. The lost flag clears when the frame's status byte showed it (R176). A fetch that ends in
INIT is discarded as a lost frame. The freed entry lets the port take its oldest waiting request in the same event: a port
takes its requests oldest first, while it holds none and owes seven replies or fewer (R181), with the answer that the rows
of that request give it. Which port comes first, when several can take one, is free (the model's choice, log entry 3). -/
def Obligations.FetchRemovesTheReplyItShiftsOutWhole : Prop :=
  (∀ (s : State) (p : Port),
    exec (.fetch p .selected) s = .next (s.setLink p { s.link p with selectLow := true })
    ∧ (s.inReset = false → exec (.fetch p .begins) s = .next (s.setLink p { s.link p with
        selectLow := true
        frame := some ⟨s.statusByte p, (s.link p).replies.head?, true⟩ }))
    ∧ (s.inReset = true → exec (.fetch p .begins) s = .next (s.setLink p { s.link p with selectLow := true }))
    ∧ (∀ f, (s.link p).frame = some f → exec (.fetch p .firstByte) s = .next (s.setLink p { s.link p with
        frame := some ⟨f.status, (s.link p).replies.head?, true⟩ }))
    ∧ ((s.link p).frame = none → exec (.fetch p .firstByte) s = .next s)
    ∧ (∀ n, s.inReset = true ∨ n = 0 → exec (.fetch p (.ends n)) s
        = .next (s.setLink p { s.link p with selectLow := false, frame := none }))
    ∧ ∀ (f : OpenFrame) (n : Nat), s.inReset = false → 0 < n → (s.link p).frame = some f →
        (s.mode = .init → exec (.fetch p (.ends n)) s = .next (s.setLink p { s.link p with
          selectLow := false
          frame := none
          lost := true
          lostFrames := min ((s.link p).lostFrames + 1) 65535
          sdo := fetchBytes f n }))
        ∧ (s.mode ≠ .init →
            (∀ r, f.oldest = some r → f.live = true → 4 + 2 * r.words.length ≤ n →
              exec (.fetch p (.ends n)) s = .next (s.setLink p { s.link p with
                selectLow := false
                frame := none
                lost := (s.link p).lost && !f.status.getLsbD 0
                replies := (s.link p).replies.tail
                sdo := ([f.status, r.tag, r.code.byte, BitVec.ofNat 8 r.words.length]
                  ++ r.words.flatMap wordBytes) ++ List.replicate (n - (4 + 2 * r.words.length)) 0 }).settle)
            ∧ (f.oldest = none ∨ f.live = false ∨ (∃ r, f.oldest = some r ∧ n < 4 + 2 * r.words.length) →
              exec (.fetch p (.ends n)) s = .next (s.setLink p { s.link p with
                selectLow := false
                frame := none
                lost := (s.link p).lost && !f.status.getLsbD 0
                sdo := fetchBytes f n }).settle)))
    ∧ (∀ s : State, (∀ p, (s.link p).requests = [] ∨ (s.link p).held ≠ none ∨ 8 ≤ (s.link p).replies.length) →
        s.settle = s)
    ∧ (∀ (s : State) (p : Port) (r : Request) (rest : List Request), s.LinksBounded → s.HeldLegal →
        (s.link p).requests = r :: rest → (s.link p).held = none → (s.link p).replies.length ≤ 7 →
        (∀ q, q ≠ p → (s.link q).requests = [] ∨ (s.link q).held ≠ none ∨ 8 ≤ (s.link q).replies.length) →
        s.settle = (take p r (s.setLink p { s.link p with requests := rest })).settle)
    ∧ (∀ s : State, s.LinksBounded → s.HeldLegal → s.settle ≠ s → ∃ (p : Port) (r : Request) (rest : List Request) (k : Nat),
        (s.link p).requests = r :: rest ∧ (s.link p).held = none ∧ (s.link p).replies.length ≤ 7
          ∧ s.settle = (take p r (({ s with choices := k }).setLink p { s.link p with requests := rest })).settle)
    ∧ ∀ (s t : State) (p : Port) (r : Request), t = s.setLink p { s.link p with fresh := false } →
        (p.codes.contains r.code = false → take p r s = t.reply p r.tag .badcmd [])
        ∧ (p.codes.contains r.code = true → (s.link p).causes ≠ [] → r.code ≠ Command.clearAbort.code →
          take p r s = t.reply p r.tag .aborted [])
        ∧ ∀ i : Instr, i.requestOf = some (p, r) → s.Open p → r.words.length ≤ 24 → r.code ≠ 0 →
          p.isImmediate r.code = false → exec i s = .next (take p r (s.framed p r))

/-- A request of its port's role whose word count is not the one its table row gives is answered BADPARAM and changes
nothing else (R188, R168). MAP-DIE's BADPARAM carries the next index and 0 entries stored (R6). So is a DISCARD, PICK-FAIL,
PRESENT-FAIL, BOND-FAIL or DISPENSE-FAIL whose last word, its disposition or reason, is above 1 (R48, R57, R55, R128,
R101), in every mode, for both checks come before the mode's (R168). -/
def Obligations.WrongWordCountIsAnsweredBadparam : Prop :=
  (∀ (s : State) (i : Instr) (p : Port) (c : Command) (tag : Byte) (words : List Word),
    i.requestOf = some (p, c.request tag words) → p.codes.contains c.code = true → s.Idle p → words.length ≤ 24 →
    c.countOk words.length = false →
    exec i s = .next (s.answered p (c.request tag words) .badparam
      (if c = .mapDie then [word s.map.nextIndex, 0] else [])))
    ∧ ∀ (s : State) (tag : Byte) (x y z code : Word), 1 < code.toNat →
      (∀ h : Head, s.Idle h.port →
        exec (.discard h tag [x, code]) s
          = .next (s.answered h.port (Command.discard.request tag [x, code]) .badparam [])
        ∧ exec (.pickFail h tag [x, code]) s
          = .next (s.answered h.port (Command.pickFail.request tag [x, code]) .badparam [])
        ∧ exec (.bondFail h tag [x, y, z, code]) s
          = .next (s.answered h.port (Command.bondFail.request tag [x, y, z, code]) .badparam []))
      ∧ (s.Idle .table → exec (.presentFail tag [x, code]) s
          = .next (s.answered .table (Command.presentFail.request tag [x, code]) .badparam []))
      ∧ (s.Idle .dispense → exec (.dispenseFail tag [x, y, z, code]) s
          = .next (s.answered .dispense (Command.dispenseFail.request tag [x, y, z, code]) .badparam []))

/-- A request of its port's role that the availability table refuses in the mode that stands is answered MODE, with the
mode's code where it asks for a change of mode, and changes nothing else (R162, R168). Its word count and its reason or
disposition word are good, for those are judged first. -/
def Obligations.RequestUnavailableInTheModeIsAnsweredMode : Prop :=
  ∀ (s : State) (i : Instr) (p : Port) (c : Command) (tag : Byte) (words : List Word),
    i.requestOf = some (p, c.request tag words) → p.codes.contains c.code = true → s.Idle p →
    c.countOk words.length = true → c.codeWordOk words = true → c.availableIn s.mode = false →
    exec i s = .next (s.answered p (c.request tag words) .mode (c.modeWords s.mode))

/-- UNKNOWN_COMMAND: a request whose code its port's role does not accept is answered BADCMD, aborted or not (R181). On
an aborted port every other request but CLEAR-ABORT and the immediate ones is answered ABORTED (R194). Neither reaches a
block: the reply, the port's fresh flag and what its frame changes are all that differs. -/
def Obligations.UnknownAndAbortedRequestsReachNoBlock : Prop :=
  (∀ (s : State) (p : Port) (code tag : Byte) (words : List Word), s.Open p → words.length ≤ 24 → code ≠ 0 →
      p.codes.contains code = false →
      exec (.unknownCommand p code tag words) s = .next (s.answered p ⟨code, tag, words⟩ .badcmd []))
    ∧ ∀ (s : State) (i : Instr) (p : Port) (r : Request), i.requestOf = some (p, r) → s.Open p →
        r.words.length ≤ 24 → p.codes.contains r.code = true → (s.link p).causes ≠ [] →
        p.isImmediate r.code = false → r.code ≠ Command.clearAbort.code →
        exec i s = .next (s.answered p r .aborted [])

/-- CANCEL (R184): NONE when the port holds nothing; else the held request is answered CANCELLED and then the CANCEL
DONE, a PICK leaving the waiting queue (R58) and a PLACE the placer queue (R121). A PICK that has been granted is not
cancelled: STATE. Requests that wait are untouched; with the held request gone the port may take its oldest of them in the
same event (R181). With none waiting, the event ends there. -/
def Obligations.CancelAnswersTheHeldRequest : Prop :=
  (∀ (s : State) (p : Port) (tag : Byte), s.inReset = false → s.mode ≠ .init →
    ((s.link p).held = none → (s.link p).replies.length ≤ 7 →
      exec (.cancel p tag []) s = .next (s.answered p (Command.cancel.request tag []) .none []).settle)
    ∧ ∀ (x : Held) (a : State), (s.link p).held = some x → (s.link p).replies.length ≤ 6 →
        a = s.handed p .cancel tag [] →
        ((∀ h, p.head? = some h →
            x.request.code ≠ Command.pick.code ∧ x.request.code ≠ Command.place.code) →
          exec (.cancel p tag []) s
            = .next ((a.setLink p ((a.link p).answer x .cancelled [])).reply p tag .done []).settle)
        ∧ (∀ h, p = h.port → x.request.code = Command.pick.code → (∃ e ∈ s.arbiter.waiting, e.head = h) →
            exec (.cancel p tag []) s = .next (((a.setArbiter { s.arbiter with
              waiting := s.arbiter.waiting.filter fun e => e.head != h }).setLink p
              ((a.link p).answer x .cancelled [])).reply p tag .done []).settle)
        ∧ (∀ h, p = h.port → x.request.code = Command.pick.code → (∀ e ∈ s.arbiter.waiting, e.head ≠ h) →
            exec (.cancel p tag []) s = .next (a.reply p tag .state []).settle)
        ∧ (∀ h, p = h.port → x.request.code = Command.place.code →
            exec (.cancel p tag []) s = .next (((a.setPlacement { s.placement with
              queue := s.placement.queue.filter fun e => e.head != h }).setLink p
              ((a.link p).answer x .cancelled [])).reply p tag .done []).settle))
    ∧ ∀ s : State, (∀ q, (s.link q).requests = []) → s.settle = s

/-- ABORT on a port that is not aborted (R195): the port enters abort with MASTER-ABORT, PORT-ABORTED is queued, the
blocks' dispositions follow (R192, R197), and after them the ABORT is answered DONE with the flushed count. CLEAR-ABORT,
aborted or not (R196): the causes that are not sticky leave the set, the flushed count becomes 0, the line time of the
first cause goes with the last cause, and the reply gives the record as it stood. One that waited in the queue does the same
as it is taken, and the port takes the request behind it in the same event, judged as the port then stands. -/
def Obligations.AbortAndClearAbortMoveThePortInAndOutOfAbort : Prop :=
  (∀ (s : State) (p : Port) (tag : Byte) (a u : State), s.Idle p → a = s.handed p .abort tag [] →
      u = (((a.setLink p { a.link p with
            causes := [⟨.masterAbort, false⟩]
            flushed := min 255 (s.link p).flushed
            firstCause := some s.lineTime }).notify .portAborted [word p.number, 1]).dispose p) →
      exec (.abort p tag []) s = .next (u.reply p tag .done [word (u.link p).flushed]))
    ∧ (∀ (s : State) (p : Port) (tag : Byte) (a : State) (sticky : List CauseMark), s.Open p →
        a = s.handed p .clearAbort tag [] → sticky = (s.link p).causes.filter (fun c => c.sticky) →
        exec (.clearAbort p tag []) s = .next ((a.setLink p { a.link p with
            causes := sticky
            flushed := 0
            firstCause := if sticky = [] then none else (s.link p).firstCause }).reply p tag .done
          ([causeWord (s.link p).causes, causeWord sticky, word (s.link p).flushed]
            ++ wordsTime (s.link p).firstCause ++ [if sticky = [] then 0 else 1])))
    ∧ ∀ (s : State) (p : Port) (tag : Byte) (rest : List Request) (sticky : List CauseMark),
        s.LinksBounded → s.HeldLegal → (s.link p).requests = Command.clearAbort.request tag [] :: rest →
        (s.link p).held = none → (s.link p).replies.length ≤ 7 →
        (∀ q, q ≠ p → (s.link q).requests = [] ∨ (s.link q).held ≠ none ∨ 8 ≤ (s.link q).replies.length) →
        sticky = (s.link p).causes.filter (fun c => c.sticky) →
        s.settle = ((s.setLink p { s.link p with
            requests := rest
            fresh := false
            causes := sticky
            flushed := 0
            firstCause := if sticky = [] then none else (s.link p).firstCause }).reply p tag .done
          ([causeWord (s.link p).causes, causeWord sticky, word (s.link p).flushed]
            ++ wordsTime (s.link p).firstCause ++ [if sticky = [] then 0 else 1])).settle

/-- PORT_ABORT_ENTRY: an entry that HALT requested (R165) is an entry into abort with LINE-HALT, sticky while the mode is
HALT (R166, R193); its request queue is flushed and counted, up to 255, its held request is answered ABORTED, and
PORT-ABORTED and the dispositions follow (R192). On a port aborted meanwhile it only adds the cause. Without a requested
entry nothing happens (log entry 5). -/
def Obligations.HaltEntryIsTakenAsAnEventOfThePort : Prop :=
  ∀ (s : State) (p : Port),
    ((s.link p).haltEntries = 0 → exec (.portAbortEntry p) s = .next s)
    ∧ ∀ k, (s.link p).haltEntries = k + 1 → (∀ q, q ≠ p → (s.link q).requests = []) →
        ((s.link p).causes = [] →
          exec (.portAbortEntry p) s = .next (((s.setLink p { s.link p with
              requests := []
              flushed := min 255 ((s.link p).flushed + (s.link p).requests.length)
              replies := (s.link p).replies
                ++ ((s.link p).held.map fun h => (⟨h.request.tag, .aborted, []⟩ : Reply)).toList
              held := none
              causes := [⟨.lineHalt, s.mode == .halt⟩]
              firstCause := some s.lineTime
              haltEntries := k }).notify .portAborted [word p.number, 2]).dispose p))
        ∧ ((s.link p).causes ≠ [] → (s.link p).requests = [] →
          exec (.portAbortEntry p) s = .next (s.setLink p { s.link p with
            causes := addCause (s.link p).causes .lineHalt (s.mode == .halt)
            haltEntries := k }))

/-- The dispositions of an entry into abort (R197). The cell port has none. The table port's frees a DELIVERED station,
its die going back to RESERVED and its PICK answered FAULT with reason 2 (R60). The dispense port's spoils the
DISPENSING site DISPENSE-LOST and empties the shot queue (R103). A head port's takes the head's entries one by one,
oldest first, and leaves the head its CARRIED entry alone: a RESERVED or STAGING die becomes AVAILABLE, a PRESENTED die
SUSPECT, and a station that was the head's is freed (R62); its assigned site is released and its touchdown queue emptied
(R130). The wake-ups come last (log entries 10 and 11). -/
def Obligations.AbortDisposesOfTheBlocksState : Prop :=
  ∀ s : State,
    s.dispose .cell = s
    ∧ (∀ o t, s.arbiter.station = .delivered o t →
        s.dispose .table = (((s.returnReserved o.head o.die o.wafer .staging).freeStation o.head).answerHeld
          o.head.port .fault [word o.die, 2]).stationWakes)
    ∧ ((∀ o t, s.arbiter.station ≠ .delivered o t) → s.dispose .table = s)
    ∧ (s.dispenser.site = none → s.dispose .dispense = s.emptyCapture .shot)
    ∧ (∀ d p, s.dispenser.site = some d → s.findColumn d.strip d.column = some p →
        s.dispose .dispense = ((s.spoil d.strip d.column d.row p .dispenseLost none).endDispense.emptyCapture
          .shot).siteWakes)
    ∧ ∀ h : Head,
        s.dispose h.port = (((((s.claimsOf h).foldl (State.disposeClaim h) (s.removeWaiter h)).removePlacer
          h).releaseSite h).emptyCapture h.touchdown).siteWakes.stationWakes
        ∧ ((s.claimsOf h).foldl (State.disposeClaim h) (s.removeWaiter h)).claimsOf h
          = (s.claimsOf h).filter (fun c => c.state == .carried)
        ∧ ∀ c : Claim,
          (c.state = .reserved →
            s.disposeClaim h c = (s.removeClaim h c.die .reserved).moveDie c.wafer c.die .available none none)
          ∧ (c.state = .staging →
            s.disposeClaim h c
              = ((s.removeClaim h c.die .staging).moveDie c.wafer c.die .available none none).freeStation h)
          ∧ (c.state = .presented →
            s.disposeClaim h c
              = (((s.removeClaim h c.die .presented).moveDie c.wafer c.die .suspect none none).freeStation h).notify
                .dieSuspect [word c.die, c.wafer, word h.code])
          ∧ (c.state = .carried → s.disposeClaim h c = s)

/-- The outputs. The status byte (R175); ATTN, asserted by the reply count, by an abort and, on the cell port, by a
notice (R189); the lamps, by source, blink and inversion (R201), and the condition of each of the sixteen sources (R202).
While a reset is in force every ATTN is released and every lamp is low (R204), and SDO is at high impedance; otherwise SDO
is driven while the port's SEL is low (R205). A cause set reads as a word with bit c set for each cause of code c (R191). -/
def Obligations.StatusByteAttnAndLampsFollowTheState : Prop :=
  (∀ (s : State) (p : Port) (k : Fin 4),
    ((s.link p).replies.length ≤ 8 → (s.statusByte p).toNat
      = (s.link p).replies.length * 16 + (if (s.link p).causes = [] then 0 else 8)
        + (if (s.link p).held = none then 0 else 4) + (if (s.link p).fresh then 2 else 0)
        + (if (s.link p).lost then 1 else 0))
    ∧ (s.inReset = false → (s.attn p = true ↔
        ((s.attnConfig p).extractLsb' 0 4).toNat ≤ (s.link p).replies.length
        ∨ ((s.attnConfig p).getLsbD 4 = true ∧ (s.link p).causes ≠ [])
        ∨ ((s.attnConfig p).getLsbD 4 = true ∧ p = .cell ∧ s.report.notices ≠ [])))
    ∧ (s.inReset = false → s.lampLevel k = xor
        (s.lampSource ((s.lampConfig k).extractLsb' 0 4).toNat
          && (if ((s.lampConfig k).extractLsb' 4 2).toNat = 1 then decide (s.lineTime.toNat % 800 < 400)
            else if ((s.lampConfig k).extractLsb' 4 2).toNat = 2 then decide (s.lineTime.toNat % 200 < 100)
            else true))
        ((s.lampConfig k).getLsbD 6))
    ∧ (s.inReset = true → s.attn p = false ∧ s.lampLevel k = false ∧ s.sdoDriven p = false)
    ∧ (s.inReset = false → (s.sdoDriven p = true ↔ (s.link p).selectLow = true))
    ∧ ∀ (cs : List CauseMark) (c : AbortCause),
        (causeWord cs).getLsbD c.code = cs.any fun m => m.cause == c)
    ∧ ∀ s : State,
      s.lampConfig 0 = s.settings.lamp0 ∧ s.lampConfig 1 = s.settings.lamp1 ∧ s.lampConfig 2 = s.settings.lamp2
      ∧ s.lampConfig 3 = s.settings.lamp3
      ∧ s.lampSource 0 = false ∧ s.lampSource 1 = true
      ∧ (s.lampSource 2 = true ↔ s.mode = .run) ∧ (s.lampSource 3 = true ↔ s.mode = .drain)
      ∧ (s.lampSource 4 = true ↔ s.mode = .halt)
      ∧ (s.lampSource 5 = true ↔ (∃ w, s.map.phase = .ready w) ∧ s.map.eligible ≤ s.settings.waferLow)
      ∧ (s.lampSource 6 = true ↔ s.map.waferEmpty = true)
      ∧ (s.lampSource 7 = true ↔ 192 ≤ s.report.log.length)
      ∧ (s.lampSource 8 = true ↔ ∃ q, (s.link q).causes ≠ [])
      ∧ (s.lampSource 9 = true ↔ (s.link .headA).held ≠ none)
      ∧ (s.lampSource 10 = true ↔ (s.link .headB).held ≠ none)
      ∧ (s.lampSource 11 = true ↔ s.spoilLatch = true)
      ∧ (s.lampSource 12 = true ↔ (s.link .dispense).held ≠ none)
      ∧ (s.lampSource 13 = true ↔ s.report.notices ≠ [])
      ∧ (s.lampSource 14 = true ↔ ∃ n, s.track.phase = .draining n ∨ s.track.phase = .moving n)
      ∧ (s.lampSource 15 = true ↔ 0 < s.map.counts.suspect)

/-! ## The die map's transitions, and the target arithmetic -/

/-- A transition of die state (R2): the record takes its new state, cause and claimant, the old state's count falls and
the new one's rises (R3). A die that leaves AVAILABLE with its bin selected lowers the eligible-available count; one that
enters it joins the returned queue, or sets the rescan flag when 16 wait, clears the wafer-empty latch, and raises the
count when its bin is selected (R13, R15, R21); each change of the count evaluates the wafer-low condition (R20). A wafer
that is not the READY map's has no record to change. -/
def Obligations.DieTransitionMovesRecordCountsAndQueue : Prop :=
  ∀ (s : State) (wafer : Word) (i : Nat) (new : DieState) (cause : Option DieCause) (head : Option Head),
    ((∀ w, s.map.phase = .ready w → w.wafer ≠ wafer) → s.moveDie wafer i new cause head = s)
    ∧ ∀ (w : WaferInfo) (d : DieRecord) (m : DieMap), s.map.phase = .ready w → w.wafer = wafer →
        s.map.table[i]? = some d →
        m = { s.map with
          table := s.map.table.set i { d with state := new, cause := cause, claimant := head }
          counts := (s.map.counts.set d.state (s.map.counts.get d.state - 1)).set new
            ((s.map.counts.set d.state (s.map.counts.get d.state - 1)).get new + 1) } →
        (d.state ≠ .available → new ≠ .available → s.moveDie wafer i new cause head = s.setMap m)
        ∧ (d.state = .available → new ≠ .available → s.moveDie wafer i new cause head =
            if s.settings.binSet.getLsbD d.bin then (s.setMap { m with eligible := m.eligible - 1 }).evalWaferLow
            else s.setMap m)
        ∧ (d.state ≠ .available → new = .available → s.moveDie wafer i new cause head =
            let queued := if m.returned.length < 16 then
                s.setMap { m with returned := m.returned ++ [i], waferEmpty := false }
              else s.setMap { m with rescan := true, waferEmpty := false }
            if s.settings.binSet.getLsbD d.bin then
              (queued.setMap { queued.map with eligible := queued.map.eligible + 1 }).evalWaferLow
            else queued)
        ∧ ((s.settings.waferLow < s.map.eligible → s.evalWaferLow = s.setMap { s.map with waferLow := false })
          ∧ (s.map.eligible ≤ s.settings.waferLow → s.map.waferLow = true → s.evalWaferLow = s)
          ∧ (s.map.eligible ≤ s.settings.waferLow → s.map.waferLow = false →
            s.evalWaferLow = (s.setMap { s.map with waferLow := true }).notify .waferLow
              [wafer, word s.map.eligible, word s.settings.waferLow]))

/-- The target of a die (R25, R26, R27): the transform's origin, plus the scaled sum in 1/256 count rounded half away from
zero, plus the drift. A target is reachable exactly when its axis word is 0, and the word has one bit for each limit
failed, both of an axis when its minimum is above its maximum (R28). The drift of an accepted presentation moves by the
weighted residual in sixteenths, rounded the same way, and is clamped into DRIFT-MAX (R33). -/
def Obligations.TargetDriftAndReachFollowTheArithmetic : Prop :=
  (∀ (t : Transform) (d : Drift) (c r : Nat),
      targetX t d c r = t.x0 + divRound 256 (((c : Int) - t.c0) * t.dxc + ((r : Int) - t.r0) * t.dxr) + d.dx
      ∧ targetY t d c r = t.y0 + divRound 256 (((c : Int) - t.c0) * t.dyc + ((r : Int) - t.r0) * t.dyr) + d.dy)
    ∧ (∀ z : Int, 0 ≤ z → divRound 256 z = (z + 128) / 256 ∧ divRound 16 z = (z + 8) / 16)
    ∧ (∀ (u : Nat) (z : Int), divRound u (-z) = -divRound u z)
    ∧ (∀ (st : Settings) (x y : Int),
        (axisWord st x y = 0 ↔ st.travelXMin ≤ x ∧ x ≤ st.travelXMax ∧ st.travelYMin ≤ y ∧ y ≤ st.travelYMax)
        ∧ ((axisWord st x y).testBit 0 = true ↔ x < st.travelXMin ∨ st.travelXMax < st.travelXMin)
        ∧ ((axisWord st x y).testBit 1 = true ↔ st.travelXMax < x ∨ st.travelXMax < st.travelXMin)
        ∧ ((axisWord st x y).testBit 2 = true ↔ y < st.travelYMin ∨ st.travelYMax < st.travelYMin)
        ∧ ((axisWord st x y).testBit 3 = true ↔ st.travelYMax < y ∨ st.travelYMax < st.travelYMin)
        ∧ axisWord st x y < 16)
    ∧ ∀ (s : State) (ex ey : Int), (s.absorb ex ey) = { s with drift :=
        ⟨max (-(s.settings.driftMax : Int)) (min s.settings.driftMax
            (s.drift.dx + divRound 16 (ex * s.settings.driftWeight))),
          max (-(s.settings.driftMax : Int)) (min s.settings.driftMax
            (s.drift.dy + divRound 16 (ey * s.settings.driftWeight)))⟩ }

/-! ## The head ports -/

/-- RESERVE that finds a die (R16, R17, R19, R42): the oldest of the returned queue that is eligible and reachable, or
with the queue empty the first such die from the scan cursor on, is reserved for the head, its entry joins the head's
claim list, and the reply DIE names it. An entry of the queue that is not eligible is dropped (R16), and a die that is not
is passed over by the scan (R17). An eligible die out of travel, in the queue or met in the scan, is rejected UNREACHABLE
with its notice, and the selection goes on from the state that leaves (R18). At the end of the die a set rescan flag is
cleared and grants one more scan from index 0; a clear one ends the selection (R17). -/
def Obligations.ReserveAnswersTheDieItSelects : Prop :=
  (∀ (s : State) (h : Head) (tag : Byte) (w : WaferInfo) (a : State) (i : Nat) (d : DieRecord),
    s.Idle h.port → s.mode = .run → s.openClaims h < s.settings.lookahead → s.map.phase = .ready w → s.logSum < 256 →
    a = s.handed h.port .reserve tag [] → s.map.table[i]? = some d → d.state = .available →
    s.settings.binSet.getLsbD d.bin = true →
    (∀ rest, s.map.returned = i :: rest → s.candidateAxis w d = 0 →
      exec (.reserve h tag []) s = .next ((((a.setMap { s.map with returned := rest }).moveDie w.wafer i .reserved none
        (some h)).setClaims h (s.claimsOf h
          ++ [⟨i, w.wafer, d.column, d.row, d.bin, .reserved, d.retries, s.lineTime⟩])).reply h.port tag .die
        [word i, w.wafer, word d.column, word d.row, word d.bin]))
    ∧ (s.map.returned = [] → s.map.cursor ≤ i → i < w.dieCount → s.candidateAxis w d = 0 →
      (∀ j e, s.map.cursor ≤ j → j < i → s.map.table[j]? = some e → s.dieEligible e = false) →
      exec (.reserve h tag []) s = .next ((((a.setMap { s.map with cursor := i + 1 }).moveDie w.wafer i .reserved none
        (some h)).setClaims h (s.claimsOf h
          ++ [⟨i, w.wafer, d.column, d.row, d.bin, .reserved, d.retries, s.lineTime⟩])).reply h.port tag .die
        [word i, w.wafer, word d.column, word d.row, word d.bin]))
    ∧ (∀ rest, s.map.returned = i :: rest → s.candidateAxis w d ≠ 0 →
      selectDie w s = selectDie w (((s.setMap { s.map with returned := rest }).moveDie w.wafer i .rejected
        (some .unreachable) none).notify .unreachable
        [word i, word d.column, word d.row, word (s.candidateAxis w d)])))
    ∧ (∀ (s : State) (h : Head) (tag : Byte) (w : WaferInfo) (t : State),
      s.Idle h.port → s.mode = .run → s.openClaims h < s.settings.lookahead → s.map.phase = .ready w → s.logSum < 256 →
      (∀ i d, selectDie w (s.handed h.port .reserve tag []) = (some i, t) → t.map.table[i]? = some d →
        exec (.reserve h tag []) s = .next (((t.moveDie w.wafer i .reserved none (some h)).setClaims h (s.claimsOf h
          ++ [⟨i, w.wafer, d.column, d.row, d.bin, .reserved, d.retries, s.lineTime⟩])).reply h.port tag .die
          [word i, w.wafer, word d.column, word d.row, word d.bin]))
      ∧ (selectDie w (s.handed h.port .reserve tag []) = (none, t) →
        exec (.reserve h tag []) s = .next ((if t.map.waferEmpty then t
          else (t.setMap { t.map with waferEmpty := true }).notify .waferEmpty
            [w.wafer, word t.map.counts.available]).reply h.port tag .none [])))
    ∧ ∀ (s : State) (w : WaferInfo) (reject : State → Nat → DieRecord → State),
      (∀ u j e, reject u j e = (u.moveDie w.wafer j .rejected (some .unreachable) none).notify .unreachable
        [word j, word e.column, word e.row, word (s.candidateAxis w e)]) →
      (∀ e, s.dieEligible e = true ↔ e.state = .available ∧ s.settings.binSet.getLsbD e.bin = true)
      ∧ (∀ j rest u, s.map.returned = j :: rest → u = s.setMap { s.map with returned := rest } →
        ((∀ e, s.map.table[j]? = some e → s.dieEligible e = false) → selectDie w s = selectDie w u)
        ∧ ∀ e, s.map.table[j]? = some e → s.dieEligible e = true →
          (s.candidateAxis w e = 0 → selectDie w s = (some j, u))
          ∧ (s.candidateAxis w e ≠ 0 → selectDie w s = selectDie w (reject u j e)))
      ∧ (∀ j u, s.map.returned = [] → s.map.cursor = j → j < w.dieCount → u = s.setMap { s.map with cursor := j + 1 } →
        ((∀ e, s.map.table[j]? = some e → s.dieEligible e = false) → selectDie w s = selectDie w u)
        ∧ ∀ e, s.map.table[j]? = some e → s.dieEligible e = true →
          (s.candidateAxis w e = 0 → selectDie w s = (some j, u))
          ∧ (s.candidateAxis w e ≠ 0 → selectDie w s = selectDie w (reject u j e)))
      ∧ (s.map.returned = [] → w.dieCount ≤ s.map.cursor →
        (s.map.rescan = true → selectDie w s = selectDie w (s.setMap { s.map with rescan := false, cursor := 0 }))
        ∧ (s.map.rescan = false → selectDie w s = (none, s)))

/-- RESERVE that gives no die (R42). FULL when the head has LOOKAHEAD open claims; held, with a wait of RESERVE-WAIT,
while the map is not READY or the log reserve is exhausted, and TIMEOUT in its place when RESERVE-WAIT is 0; NONE when
the returned queue is empty, no rescan is granted and no die from the scan cursor on is eligible, with WAFER-EMPTY queued
and its latch set the first time (R17, R21). -/
def Obligations.ReserveWithoutADieIsFullHeldTimedOutOrNone : Prop :=
  ∀ (s : State) (h : Head) (tag : Byte) (a : State), s.Idle h.port → s.mode = .run →
    a = s.handed h.port .reserve tag [] →
    (s.settings.lookahead ≤ s.openClaims h →
      exec (.reserve h tag []) s = .next (s.answered h.port (Command.reserve.request tag []) .full []))
    ∧ (s.openClaims h < s.settings.lookahead → (∀ w, s.map.phase ≠ .ready w) ∨ 256 ≤ s.logSum →
      exec (.reserve h tag []) s = .next
        (if s.settings.reserveWait = 0 then a.reply h.port tag .timeout []
        else a.setLink h.port { a.link h.port with
          held := some ⟨Command.reserve.request tag [], s.lineTime,
            some (s.lineTime + BitVec.ofNat 32 s.settings.reserveWait)⟩ }))
    ∧ ∀ w u, s.openClaims h < s.settings.lookahead → s.map.phase = .ready w → s.logSum < 256 → s.map.returned = [] →
        s.map.rescan = false → s.map.cursor ≤ w.dieCount →
        (∀ j e, s.map.cursor ≤ j → s.map.table[j]? = some e → s.dieEligible e = false) →
        u = a.setMap { s.map with cursor := w.dieCount } →
        exec (.reserve h tag []) s = .next ((if s.map.waferEmpty then u
          else (u.setMap { u.map with waferEmpty := true }).notify .waferEmpty
            [w.wafer, word s.map.counts.available]).reply h.port tag .none [])

/-- The held RESERVE requests are re-evaluated (R44, R149): the one held earlier first, head A's first at one line time;
one that could be answered now is, from the state the one before it left, and one that could not stays held. With none
held nothing changes. -/
def Obligations.HeldReservesAreReevaluatedInOrder : Prop :=
  ∀ s : State,
    (s.holds .headA Command.reserve.code = false → s.holds .headB Command.reserve.code = false → s.wakeReserves = s)
    ∧ (∀ h, s.holds h.port Command.reserve.code = true →
        (((∀ w, s.map.phase ≠ .ready w) ∨ 256 ≤ s.logSum) → s.wakeReserve h = s)
        ∧ ∀ w, s.map.phase = .ready w → s.logSum < 256 →
          s.wakeReserve h = (s.serveReserve h w).2.answerHeld h.port (s.serveReserve h w).1.code
            (s.serveReserve h w).1.words)
    ∧ ∀ x y : Held, (s.link .headA).held = some x → (s.link .headB).held = some y →
        x.request.code = Command.reserve.code → y.request.code = Command.reserve.code →
        (2 ^ 31 ≤ (y.since - x.since).toNat → s.wakeReserves = (s.wakeReserve .B).wakeReserve .A)
        ∧ ((y.since - x.since).toNat < 2 ^ 31 → s.wakeReserves = (s.wakeReserve .A).wakeReserve .B)

/-- RELEASE and DISCARD (R47, R48). RELEASE of a RESERVED die removes its entry and makes the die AVAILABLE. DISCARD of
the CARRIED die makes it LOST (dropped) or REJECTED (dumped) with its notice, removes its entry and releases the head's
assigned site. Both answer DONE and wake the held RESERVEs. With no such entry the reply is STATE and nothing changes. That
DISCARD makes the site wake-ups before it wakes the RESERVEs is the model's DESIGN CHOICE (log entry 10). -/
def Obligations.ReleaseAndDiscardGiveUpTheDie : Prop :=
  ∀ (s : State) (h : Head) (tag : Byte) (die : Word) (a : State), s.Idle h.port → s.mode = .run ∨ s.mode = .drain →
    (a = s.handed h.port .release tag [die] →
      (s.findClaim h die.toNat .reserved = none →
        exec (.release h tag [die]) s = .next (a.reply h.port tag .state []))
      ∧ ∀ c, s.findClaim h die.toNat .reserved = some c →
        exec (.release h tag [die]) s = .next ((((a.removeClaim h c.die .reserved).moveDie c.wafer c.die .available none
          none).reply h.port tag .done []).wakeReserves))
    ∧ (∀ disposition : Word, disposition.toNat ≤ 1 → a = s.handed h.port .discard tag [die, disposition] →
      s.findClaim h die.toNat .carried = none →
      exec (.discard h tag [die, disposition]) s = .next (a.reply h.port tag .state []))
    ∧ ∀ c, s.findClaim h die.toNat .carried = some c →
      (a = s.handed h.port .discard tag [die, 0] →
        exec (.discard h tag [die, 0]) s = .next
          (((((((a.removeClaim h c.die .carried).moveDie c.wafer c.die .lost (some .dropped) none).notify .dieLost
            [word c.die, c.wafer, 9, word h.code]).releaseSite h).reply h.port tag .done [8]).siteWakes).wakeReserves))
      ∧ (a = s.handed h.port .discard tag [die, 1] →
        exec (.discard h tag [die, 1]) s = .next
          (((((((a.removeClaim h c.die .carried).moveDie c.wafer c.die .rejected (some .dumped) none).notify .dieRejected
            [word c.die, c.wafer, 7, word h.code]).releaseSite h).reply h.port tag .done [6]).siteWakes).wakeReserves))

/-- PICK, the grant and AWAIT-ORDER (R50 to R53). A PICK of a RESERVED die, with no other die on its way to the head, is
held and joins the waiting queue. A FREE station is granted to the oldest entry: with the die reachable the die becomes
STAGING and the station ORDERED with its target; out of travel, the die is rejected UNREACHABLE, its PICK answered
DIE-REJECTED, and the next entry is granted. An ORDERED station is delivered to a held AWAIT-ORDER at once: DELIVERED, the
presentation timer started, ORDER answered; every other AWAIT-ORDER stays held. -/
def Obligations.PickWaitsForTheStationAndAwaitOrderForTheOrder : Prop :=
  (∀ (s : State) (h : Head) (tag : Byte) (die : Word) (a : State), s.Idle h.port → s.mode = .run ∨ s.mode = .drain →
      a = s.handed h.port .pick tag [die] →
      (s.findClaim h die.toNat .reserved = none ∨ (∃ c ∈ s.claimsOf h, c.state ≠ .reserved) →
        exec (.pick h tag [die]) s = .next (a.reply h.port tag .state []))
      ∧ ∀ c, s.findClaim h die.toNat .reserved = some c → (∀ x ∈ s.claimsOf h, x.state = .reserved) →
        exec (.pick h tag [die]) s = .next (((a.setLink h.port { a.link h.port with
          held := some ⟨Command.pick.request tag [die], s.lineTime, none⟩ }).setArbiter { s.arbiter with
          waiting := s.arbiter.waiting ++ [⟨h, c.die⟩] }).applyGrants.wakeReserves))
    ∧ (∀ s : State, s.arbiter.station ≠ .free ∨ s.arbiter.waiting = [] → s.applyGrants = s)
    ∧ (∀ (s : State) (e : Waiter) (rest : List Waiter) (w : WaferInfo) (d : DieRecord) (u : State),
        s.arbiter.station = .free → s.arbiter.waiting = e :: rest → s.map.phase = .ready w →
        s.map.table[e.die]? = some d → u = s.setArbiter { s.arbiter with waiting := rest } →
        (s.candidateAxis w d = 0 →
          s.applyGrants = (((u.moveDie w.wafer e.die .staging none (some e.head)).moveClaim e.head e.die .reserved
            .staging).setArbiter { u.arbiter with
              station := .ordered ⟨e.die, w.wafer, e.head, targetX w.transform s.drift d.column d.row,
                targetY w.transform s.drift d.column d.row⟩ }).deliver)
        ∧ (s.candidateAxis w d ≠ 0 →
          s.applyGrants = ((((u.moveDie w.wafer e.die .rejected (some .unreachable) none).removeClaim e.head e.die
            .reserved).notify .unreachable
            [word e.die, word d.column, word d.row, word (s.candidateAxis w d)]).answerHeld e.head.port .dieRejected
            [word e.die, 1]).applyGrants))
    ∧ (∀ (s : State) (o : Order) (x : Held), s.arbiter.station = .ordered o → (s.link .table).held = some x →
        x.request.code = Command.awaitOrder.code →
        s.deliver = (s.setArbiter { s.arbiter with
            station := .delivered o s.lineTime
            presentTimer := some (s.lineTime + BitVec.ofNat 32 s.settings.presentLimit) }).setLink .table
          ((s.link .table).answer x .order ([word o.die, o.wafer] ++ wordsInt o.x ++ wordsInt o.y)))
    ∧ (∀ s : State, (∀ o, s.arbiter.station ≠ .ordered o) → s.deliver = s)
    ∧ ∀ (s : State) (tag : Byte) (a : State), s.Idle .table → s.mode = .setup ∨ s.mode = .run ∨ s.mode = .drain →
        a = s.handed .table .awaitOrder tag [] →
        exec (.awaitOrder tag []) s = .next (a.setLink .table { a.link .table with
          held := some ⟨Command.awaitOrder.request tag [], s.lineTime, none⟩ }).deliver

/-- PICKED and PICK-FAIL (R56, R57). PICKED makes the PRESENTED die CARRIED and frees the station. PICK-FAIL NOT-LIFTED
returns the die to RESERVED with one more retry while retries are left, and rejects it PICK-FAILED when none is; DAMAGED
rejects it. The station is freed, the grant timer stops, and the next entry is granted. With no PRESENTED entry of that
die index the reply is STATE and nothing changes. -/
def Obligations.PickedAndPickFailEndThePresentation : Prop :=
  ∀ (s : State) (h : Head) (tag : Byte) (die : Word) (a : State), s.Idle h.port → s.mode = .run ∨ s.mode = .drain →
    (s.findClaim h die.toNat .presented = none →
      (a = s.handed h.port .picked tag [die] → exec (.picked h tag [die]) s = .next (a.reply h.port tag .state []))
      ∧ ∀ reason : Word, reason.toNat ≤ 1 → a = s.handed h.port .pickFail tag [die, reason] →
        exec (.pickFail h tag [die, reason]) s = .next (a.reply h.port tag .state []))
    ∧ ∀ c, s.findClaim h die.toNat .presented = some c →
      (a = s.handed h.port .picked tag [die] →
        exec (.picked h tag [die]) s = .next (((((a.moveDie c.wafer c.die .carried none (some h)).moveClaim h c.die
          .presented .carried).freeStation h).reply h.port tag .done []).stationWakes))
      ∧ (a = s.handed h.port .pickFail tag [die, 1] →
        exec (.pickFail h tag [die, 1]) s = .next ((((((a.moveDie c.wafer c.die .rejected (some .damaged)
          none).removeClaim h c.die .presented).notify .dieRejected [word c.die, c.wafer, 4, word h.code]).freeStation
          h).reply h.port tag .done [6, word c.retries]).stationWakes))
      ∧ (a = s.handed h.port .pickFail tag [die, 0] → c.retries < s.settings.pickRetries →
        exec (.pickFail h tag [die, 0]) s = .next (((((((a.setRetries c.wafer c.die (c.retries + 1)).updateClaim h c.die
          .presented fun x => { x with retries := x.retries + 1 }).moveDie c.wafer c.die .reserved none
          (some h)).moveClaim h c.die .presented .reserved).freeStation h).reply h.port tag .done
          [1, word (c.retries + 1)]).stationWakes))
      ∧ (a = s.handed h.port .pickFail tag [die, 0] → s.settings.pickRetries ≤ c.retries →
        exec (.pickFail h tag [die, 0]) s = .next (((((((a.setRetries c.wafer c.die (min 3 (c.retries + 1))).moveDie
          c.wafer c.die .rejected (some .pickFailed) none).removeClaim h c.die .presented).notify .dieRejected
          [word c.die, c.wafer, 5, word h.code]).freeStation h).reply h.port tag .done
          [6, word (min 3 (c.retries + 1))]).stationWakes))

/-- PLACE and the serving of the placers (R116 to R118, R132). A PLACE of the CARRIED die, with no site assigned to the
head, is held and joins the placer queue, which is served at once; when it is not answered by that, its wait of
PLACE-WAIT starts, or at PLACE-WAIT 0 it is answered TIMEOUT and leaves the queue. Placers are served oldest first and
only while the track is STILL, each with the site chosen for its head: the site becomes ASSIGNED, the place-hold timer
starts, and SITE gives its name, its position and the time left. A change of sites ends with the drain test (R79), the held
NEXT-SITE (R96) and the placers (R119), a change of the station with its grants (R51) and the held RESERVEs (R44); the order
of the wake-ups is the model's DESIGN CHOICE (log entry 10). -/
def Obligations.PlaceIsServedInTurnWhileTheTrackIsStill : Prop :=
  (∀ (s : State) (h : Head) (tag : Byte) (die : Word) (a q : State) (c : Claim), s.Idle h.port →
      s.mode = .run ∨ s.mode = .drain → a = s.handed h.port .place tag [die] →
      (s.findClaim h die.toNat .carried = none ∨ s.assignedOf h ≠ none →
        exec (.place h tag [die]) s = .next (a.reply h.port tag .state []))
      ∧ (s.findClaim h die.toNat .carried = some c → s.assignedOf h = none →
        q = ((a.setLink h.port { a.link h.port with
          held := some ⟨Command.place.request tag [die], s.lineTime, none⟩ }).setPlacement { s.placement with
          queue := s.placement.queue ++ [⟨h, c.die, c.wafer⟩] }).servePlacers →
        ((q.link h.port).held = none → exec (.place h tag [die]) s = .next q)
        ∧ ∀ x, (q.link h.port).held = some x →
          exec (.place h tag [die]) s = .next
            (if s.settings.placeWait = 0 then (q.setPlacement { q.placement with
                queue := q.placement.queue.filter fun e => e.head != h }).setLink h.port
                ((q.link h.port).answer x .timeout [])
            else q.setLink h.port { q.link h.port with
              held := some ⟨x.request, x.since, some (s.lineTime + BitVec.ofNat 32 s.settings.placeWait)⟩ })))
    ∧ (∀ s : State, s.track.phase ≠ .still ∨ s.placement.queue = [] → s.servePlacers = s)
    ∧ (∀ s : State, s.track.phase = .still → s.servePlacers = servePlacerList s.placement.queue s)
    ∧ (∀ s : State, s.siteWakes = s.drainTest.serveNextSite.servePlacers
      ∧ s.stationWakes = s.applyGrants.wakeReserves)
    ∧ (∀ (s : State), servePlacerList [] s = s)
    ∧ (∀ (s : State) (e : Placer) (rest : List Placer), servePlacerList (e :: rest) s
        = match s.chosenSite e.head with
          | none => servePlacerList rest s
          | some c => servePlacerList rest (s.assign e c))
    ∧ ∀ (s : State) (e : Placer) (c : Candidate) (col : Column) (st : Stamp) (x : Held) (t : State),
        s.columnAt c.position = some col → s.siteAt c.position c.row = some (.wet st) →
        (s.link e.head.port).held = some x →
        t = s.setSite c.position c.row (.assigned st e.head s.lineTime false) →
        s.assign e c = (t.setPlacement
          { queue := s.placement.queue.filter fun y => y.head != e.head
            assigned := s.placement.assigned.set e.head
              (some ⟨col.strip, col.column, c.row, c.position, e.die, e.wafer, s.lineTime⟩)
            hold := s.placement.hold.set e.head
              (some (s.lineTime + BitVec.ofNat 32 s.settings.placeHold)) }).setLink e.head.port
          ((s.link e.head.port).answer x .site
            ([col.strip, word col.column, word c.row, word c.position] ++ words32 (st.deadline - s.lineTime)))

/-- The site chosen for a head (R113, R115): a site is eligible when it is WET, lies in the bond window, has PLACE-LEAD
or more left to its deadline, and keeps clear of the other head's site; chosen is the eligible site of the earliest
deadline, of those the one at the highest position, and of those the one of the lowest row. None is chosen when none is
eligible. -/
def Obligations.ChosenBondSiteHasTheEarliestDeadline : Prop :=
  ∀ (s : State) (h : Head),
    (∀ (p r : Nat) (t : Time), s.eligibleDeadline h p r = some t ↔
      ∃ st, s.siteAt p r = some (.wet st) ∧ t = st.deadline ∧ s.settings.bondStart ≤ p ∧ p ≤ s.settings.bondEnd
        ∧ (s.settings.placeLead : Int) ≤ (st.deadline - s.lineTime).toInt
        ∧ ∀ o, s.assignedOf h.other = some o →
          ¬(o.position = p ∧ o.row = r) ∧ s.settings.keepOut ≤ (p - o.position) + (o.position - p))
    ∧ (s.chosenSite h = none ↔ ∀ p r, r < s.settings.rows → s.eligibleDeadline h p r = none)
    ∧ ∀ c, s.chosenSite h = some c → c.row < s.settings.rows
        ∧ s.eligibleDeadline h c.position c.row = some c.deadline
        ∧ ∀ p r t, r < s.settings.rows → s.eligibleDeadline h p r = some t →
          (c.deadline - s.lineTime).toNat < (t - s.lineTime).toNat
          ∨ (c.deadline = t ∧ (p < c.position ∨ (p = c.position ∧ c.row ≤ r)))

/-- A site spoils (R92), and a head's assigned site is released (R122). A spoil writes SPOILED with its reason and the
stamp that it keeps, lowers the wet count, queues SITE-SPOILED, and sets the spoil latch when the reason is EXPIRED
(R203). A release ends the assignment and stops the place-hold timer; the site goes back to WET, or, with its late flag
set, spoils EXPIRED. A site record is written in its column alone. -/
def Obligations.SpoilAndReleaseChangeOneSite : Prop :=
  ∀ (s : State),
    (∀ (p r : Nat) (x : Site) (c : Column), s.columnAt p = some c →
      s.setSite p r x = { s with track := { s.track with
        ring := s.track.ring.set (s.track.slot p) (some { c with sites := c.sites.set r x }) } })
    ∧ (∀ (strip : Word) (column row p : Nat) (reason : SpoilReason) (st : Option Stamp),
        s.spoil strip column row p reason st =
          let t := ({ s.setSite p row (.spoiled reason st) with
            dispenser := { s.dispenser with wet := s.dispenser.wet - 1 } }).notify .siteSpoiled
            [strip, word column, bytePair row p, word reason.code]
          if reason = .expired then { t with spoilLatch := true } else t)
    ∧ ∀ h : Head,
        (s.assignedOf h = none → s.releaseSite h = s)
        ∧ ∀ (a : Assigned) (st : Stamp) (g : Head) (since : Time) (late : Bool) (e : State), s.assignedOf h = some a →
          s.siteAt a.position a.row = some (.assigned st g since late) →
          e = { s with placement := { s.placement with
            assigned := s.placement.assigned.set h none
            hold := s.placement.hold.set h none } } →
          s.releaseSite h = if late then e.spoil a.strip a.column a.row a.position .expired (some st)
            else e.setSite a.position a.row (.wet st)

/-- BONDED (R123 to R127). The touchdown queue is matched from its oldest entry: entries earlier than the assignment are
stray and counted, the first that is not is the bond time and is consumed, and with none the arrival time is taken. The
site becomes BONDED, the wet count falls, the die becomes PLACED and its entry goes, the assignment ends, a bond record
with the next sequence number joins the log, a late bond queues LATE-BOND, and the reply DONE gives the sequence number.
With no assigned site, or another site named, the reply is STATE and nothing changes. -/
def Obligations.BondedCompletesTheBondWithItsRecord : Prop :=
  (∀ (s : State) (h : Head) (tag : Byte) (strip column row : Word) (a : State), s.Idle h.port →
      s.mode = .run ∨ s.mode = .drain → a = s.handed h.port .bonded tag [strip, column, row] →
      (s.assignedOf h = none ∨ (∃ r, s.assignedOf h = some r ∧
          ¬(r.strip = strip ∧ r.column = column.toNat ∧ r.row = row.toNat)) →
        exec (.bonded h tag [strip, column, row]) s = .next (a.reply h.port tag .state []))
      ∧ ∀ (r : Assigned) (c : Claim) (st : Stamp) (g : Head) (since : Time) (late : Bool) (m : EdgeMatch) (u v : State),
          s.assignedOf h = some r → r.strip = strip → r.column = column.toNat → r.row = row.toNat →
          s.siteAt r.position r.row = some (.assigned st g since late) → s.carriedClaim h = some c →
          m = matchEdge r.since s.lineTime (s.capture.get h.touchdown).queue →
          u = (((a.setCapture h.touchdown { s.capture.get h.touchdown with
              queue := m.queue
              stray := min ((s.capture.get h.touchdown).stray + m.strays) 65535 }).setSite r.position r.row
              (.bonded st late r.die r.wafer)).dropWet.moveDie r.wafer r.die .placed none none).removeClaim h c.die
              .carried →
          v = { u with
            placement := { u.placement with
              assigned := u.placement.assigned.set h none
              hold := u.placement.hold.set h none }
            report := { u.report with
              log := u.report.log ++ [{
                seq := u.report.nextSeq, wafer := r.wafer, die := r.die, dieColumn := c.column, dieRow := c.row
                bin := c.bin, retries := c.retries, strip := r.strip, stripColumn := r.column, row := r.row
                position := r.position, head := h, late := late, stamp := st.time, stampSource := st.source
                bondTime := m.time, bondSource := m.source, margin := st.deadline - m.time }]
              nextSeq := u.report.nextSeq + 1 } } →
          exec (.bonded h tag [strip, column, row]) s = .next (((if late then
              v.notify .lateBond [r.strip, word r.column, bytePair r.row r.position, word h.code]
            else v).reply h.port tag .done (words32 s.report.nextSeq)).siteWakes))
    ∧ (∀ since now : Time, matchEdge since now [] = ⟨now, .arrival, [], 0⟩)
    ∧ ∀ (since now t : Time) (rest : List Time),
        (2 ^ 31 ≤ (t - since).toNat → matchEdge since now (t :: rest)
          = { matchEdge since now rest with strays := (matchEdge since now rest).strays + 1 })
        ∧ ((t - since).toNat < 2 ^ 31 → matchEdge since now (t :: rest) = ⟨t, .capture, rest, 0⟩)

/-- BOND-FAIL (R128). NOT-RELEASED releases the assigned site, and the head still carries its die; MISPLACED rejects the
die MISPLACED, removes its entry, ends the assignment, spoils the site MISPLACED and queues both notices. DONE gives the
state codes of the site and of the die. With no assigned site, or another site named, the reply is STATE. That MISPLACED
makes the site wake-ups before it wakes the held RESERVEs is the model's DESIGN CHOICE (log entry 10). -/
def Obligations.BondFailReleasesOrSpoilsTheSite : Prop :=
  ∀ (s : State) (h : Head) (tag : Byte) (strip column row : Word), s.Idle h.port → s.mode = .run ∨ s.mode = .drain →
    (∀ reason : Word, reason.toNat ≤ 1 → (s.assignedOf h = none ∨ (∃ r, s.assignedOf h = some r ∧
        ¬(r.strip = strip ∧ r.column = column.toNat ∧ r.row = row.toNat))) →
      exec (.bondFail h tag [strip, column, row, reason]) s
        = .next (s.answered h.port (Command.bondFail.request tag [strip, column, row, reason]) .state []))
    ∧ ∀ (r : Assigned) (st : Stamp) (g : Head) (since : Time) (late : Bool) (a : State),
        s.assignedOf h = some r → r.strip = strip → r.column = column.toNat → r.row = row.toNat →
        s.siteAt r.position r.row = some (.assigned st g since late) →
        (a = s.handed h.port .bondFail tag [strip, column, row, 0] →
          exec (.bondFail h tag [strip, column, row, 0]) s = .next
            (((a.releaseSite h).reply h.port tag .done [if late then 7 else 4, 4]).siteWakes))
        ∧ (a = s.handed h.port .bondFail tag [strip, column, row, 1] →
          exec (.bondFail h tag [strip, column, row, 1]) s = .next
            ((((((((a.moveDie r.wafer r.die .rejected (some .misplaced) none).removeClaim h r.die .carried).endAssignment
              h).spoil r.strip r.column r.row r.position .misplaced (some st)).notify .dieRejected
              [word r.die, r.wafer, 6, word h.code]).reply h.port tag .done [7, 6]).siteWakes).wakeReserves))

/-! ## The table port and the dispense port -/

/-- PRESENTED and PRESENT-FAIL (R31, R54, R55). STALE, with nothing changed, unless the station is DELIVERED for that die.
Both residuals within REJECT-LIMIT: the drift moves, the die and the station become PRESENTED, the PICK is answered GO
and the grant timer starts. A residual beyond it, or NOT-FOUND, rejects the die (OFFSET, NOT-FOUND), answers the PICK
DIE-REJECTED and frees the station; MOTION returns the die to RESERVED and answers the PICK FAULT with reason 1. -/
def Obligations.PresentationIsAcceptedRejectedOrStale : Prop :=
  ∀ (s : State) (tag : Byte) (die : Word), s.Idle .table → s.mode = .setup ∨ s.mode = .run ∨ s.mode = .drain →
    ((∀ o t, s.arbiter.station = .delivered o t → o.die ≠ die.toNat) →
      (∀ ex ey : Word, exec (.presented tag [die, ex, ey]) s
        = .next (s.answered .table (Command.presented.request tag [die, ex, ey]) .stale []))
      ∧ ∀ reason : Word, reason.toNat ≤ 1 → exec (.presentFail tag [die, reason]) s
        = .next (s.answered .table (Command.presentFail.request tag [die, reason]) .stale []))
    ∧ ∀ (o : Order) (t : Time) (a : State), s.arbiter.station = .delivered o t → o.die = die.toNat →
        (∀ (ex ey : Word) (u : State), a = s.handed .table .presented tag [die, ex, ey] →
          (ex.toInt.natAbs ≤ s.settings.rejectLimit → ey.toInt.natAbs ≤ s.settings.rejectLimit →
            u = ((a.absorb ex.toInt ey.toInt).moveDie o.wafer o.die .presented none (some o.head)).moveClaim o.head o.die
              .staging .presented →
            exec (.presented tag [die, ex, ey]) s = .next (((u.setArbiter { s.arbiter with
                station := .presented o t
                presentTimer := none
                grantTimer := s.arbiter.grantTimer.set o.head
                  (some (s.lineTime + BitVec.ofNat 32 s.settings.grantHold)) }).answerHeld o.head.port .go
              [word o.die, ex, ey]).reply .table tag .done [0]))
          ∧ (s.settings.rejectLimit < ex.toInt.natAbs ∨ s.settings.rejectLimit < ey.toInt.natAbs →
            exec (.presented tag [die, ex, ey]) s = .next
              (((((((a.moveDie o.wafer o.die .rejected (some .offset) none).removeClaim o.head o.die .staging).notify
                .dieRejected [word o.die, o.wafer, 2, word o.head.code]).freeStation o.head).answerHeld o.head.port
                .dieRejected [word o.die, 2]).reply .table tag .done [1]).stationWakes)))
        ∧ (a = s.handed .table .presentFail tag [die, 0] →
          exec (.presentFail tag [die, 0]) s = .next
            (((((((a.moveDie o.wafer o.die .rejected (some .notFound) none).removeClaim o.head o.die .staging).notify
              .dieRejected [word o.die, o.wafer, 3, word o.head.code]).freeStation o.head).answerHeld o.head.port
              .dieRejected [word o.die, 3]).reply .table tag .done []).stationWakes))
        ∧ (a = s.handed .table .presentFail tag [die, 1] →
          exec (.presentFail tag [die, 1]) s = .next
            ((((((a.moveDie o.wafer o.die .reserved none (some o.head)).moveClaim o.head o.die .staging
              .reserved).freeStation o.head).answerHeld o.head.port .fault [word o.die, 1]).reply .table tag .done
              []).stationWakes))

/-- NEXT-SITE and the wake-up of a held one (R93 to R96). STATE while a site is DISPENSING. With the track STILL and the
wet count below WET-LIMIT, the first CLEAN site in traversal order is handed out: it becomes DISPENSING, the reference
and the dispense-hold timer start, the wet count rises, and SITE names it. Otherwise the request is held with a wait of
SITE-WAIT, or answered TIMEOUT at SITE-WAIT 0. The traversal walks the window from its end down to its start, column by
column or row by row, every second line backwards in serpentine order. -/
def Obligations.NextSiteHandsOutTheFirstCleanSite : Prop :=
  (∀ (s : State) (tag : Byte) (a : State), s.Idle .dispense → s.mode = .run → a = s.handed .dispense .nextSite tag [] →
      (s.dispenser.site ≠ none → exec (.nextSite tag []) s = .next (a.reply .dispense tag .state []))
      ∧ (s.dispenser.site = none →
        (∀ (p r : Nat) (c : Column), s.track.phase = .still → s.dispenser.wet < s.settings.wetLimit →
          (traversal s.settings).find? (fun x => s.siteAt x.1 x.2 == some .clean) = some (p, r) →
          s.columnAt p = some c →
          exec (.nextSite tag []) s = .next (((a.setSite p r (.dispensing s.lineTime)).setDispenser
            { site := some ⟨c.strip, c.column, r, s.lineTime⟩
              hold := some (s.lineTime + BitVec.ofNat 32 s.settings.dispenseHold)
              wet := s.dispenser.wet + 1 }).reply .dispense tag .site [c.strip, word c.column, word r, word p]))
        ∧ (s.track.phase ≠ .still ∨ s.settings.wetLimit ≤ s.dispenser.wet
            ∨ (∀ x ∈ traversal s.settings, s.siteAt x.1 x.2 ≠ some .clean) →
          exec (.nextSite tag []) s = .next
            (if s.settings.siteWait = 0 then a.reply .dispense tag .timeout []
            else a.setLink .dispense { a.link .dispense with
              held := some ⟨Command.nextSite.request tag [], s.lineTime,
                some (s.lineTime + BitVec.ofNat 32 s.settings.siteWait)⟩ }))))
    ∧ (∀ s : State, (s.holds .dispense Command.nextSite.code = false ∨ s.nextPlace = none) → s.serveNextSite = s)
    ∧ (∀ (s : State) (p r : Nat), s.holds .dispense Command.nextSite.code = true → s.nextPlace = some (p, r) →
        s.serveNextSite = (s.handOut p r).2.answerHeld .dispense .site (s.handOut p r).1)
    ∧ ∀ st : Settings,
        (∀ p r, (p, r) ∈ traversal st ↔ st.dispenseStart ≤ p ∧ p ≤ st.dispenseEnd ∧ r < st.rows)
        ∧ (st.dispenseOrder = 0 → traversal st = (windowDown st.dispenseStart st.dispenseEnd).flatMap fun p =>
          (List.range st.rows).map fun r => (p, r))
        ∧ (st.dispenseOrder = 1 → traversal st = (List.range st.rows).flatMap fun r =>
          (windowDown st.dispenseStart st.dispenseEnd).map fun p => (p, r))
        ∧ (st.dispenseOrder = 2 → traversal st = layLines true false ((windowDown st.dispenseStart st.dispenseEnd).map
          fun p => (List.range st.rows).map fun r => (p, r)))
        ∧ (st.dispenseOrder = 3 → traversal st = layLines true false ((List.range st.rows).map
          fun r => (windowDown st.dispenseStart st.dispenseEnd).map fun p => (p, r)))
        ∧ (∀ first last : Nat, windowDown first last = (List.range (last + 1 - first)).map fun k => last - k)
        ∧ (∀ {α : Type} (odd : Bool), layLines true odd ([] : List (List α)) = [])
        ∧ ∀ {α : Type} (odd : Bool) (line : List α) (rest : List (List α)),
          layLines true odd (line :: rest) = (if odd then line.reverse else line) ++ layLines true (!odd) rest

/-- DISPENSED and DISPENSE-FAIL (R98 to R101). The shot queue is matched as the touchdown queue is at BONDED; the deadline
is the stamp plus 10 × OPEN-TIME. Later than now, the site becomes WET; not later, it spoils EXPIRED. SKIP makes the site
SKIPPED and lowers the wet count; SHORT spoils it. The dispensing ends in every case. With no site DISPENSING, or another
site named, the reply is STATE and nothing changes. -/
def Obligations.DispenseReportsEndTheDispensing : Prop :=
  ∀ (s : State) (tag : Byte) (strip column row : Word), s.Idle .dispense → s.mode = .run ∨ s.mode = .drain →
    ((∀ d, s.dispenser.site = some d → ¬(d.strip = strip ∧ d.column = column.toNat ∧ d.row = row.toNat)) →
      exec (.dispensed tag [strip, column, row]) s
        = .next (s.answered .dispense (Command.dispensed.request tag [strip, column, row]) .state [])
      ∧ ∀ reason : Word, reason.toNat ≤ 1 → exec (.dispenseFail tag [strip, column, row, reason]) s
        = .next (s.answered .dispense (Command.dispenseFail.request tag [strip, column, row, reason]) .state []))
    ∧ ∀ (d : DispenseRef) (p : Nat) (a : State), s.dispenser.site = some d → d.strip = strip →
        d.column = column.toNat → d.row = row.toNat → s.findColumn d.strip d.column = some p →
        (∀ (m : EdgeMatch) (deadline : Time) (u : State), a = s.handed .dispense .dispensed tag [strip, column, row] →
          m = matchEdge d.handout s.lineTime s.capture.shot.queue →
          deadline = m.time + BitVec.ofNat 32 (10 * s.settings.openTime) →
          u = a.setCapture .shot { s.capture.shot with
            queue := m.queue
            stray := min (s.capture.shot.stray + m.strays) 65535 } →
          ((deadline - s.lineTime).toNat ∈ Set.Ico 1 (2 ^ 31) →
            exec (.dispensed tag [strip, column, row]) s = .next
              ((((u.setSite p d.row (.wet ⟨m.time, m.source, deadline⟩)).endDispense).reply .dispense tag .done
                ([4, word m.source.code] ++ words32 deadline)).siteWakes))
          ∧ ((deadline - s.lineTime).toNat ∉ Set.Ico 1 (2 ^ 31) →
            exec (.dispensed tag [strip, column, row]) s = .next
              ((((u.spoil d.strip d.column d.row p .expired (some ⟨m.time, m.source, deadline⟩)).endDispense).reply
                .dispense tag .done ([7, word m.source.code] ++ words32 deadline)).siteWakes)))
        ∧ (a = s.handed .dispense .dispenseFail tag [strip, column, row, 0] →
          exec (.dispenseFail tag [strip, column, row, 0]) s = .next
            (((a.setSite p d.row .skipped).dropWet.endDispense.reply .dispense tag .done [8]).siteWakes))
        ∧ (a = s.handed .dispense .dispenseFail tag [strip, column, row, 1] →
          exec (.dispenseFail tag [strip, column, row, 1]) s = .next
            ((((a.spoil d.strip d.column d.row p .short none).endDispense).reply .dispense tag .done [7]).siteWakes))

/-! ## The timers -/

/-- The expiries that abort a port (R59, R61, R102, R129, R142), on a part with no request waiting and a port not yet
aborted: the timer stops, and the port enters abort with its cause. A place-hold expiry first spoils the site
PLACE-UNKNOWN, makes the die LOST, removes its entry, queues both notices and ends the assignment. That its wake-ups come
with those of the abort, after these steps, is the model's DESIGN CHOICE (log entry 22). A timer that has not run out does
not expire. -/
def Obligations.HoldExpiriesAbortThePort : Prop :=
  ∀ s : State, (∀ q, (s.link q).requests = []) →
    (∀ t, s.arbiter.presentTimer = some t →
      (2 ^ 31 ≤ (s.lineTime - t).toNat → exec .presentationTimerExpiry s = .next s)
      ∧ ((s.lineTime - t).toNat < 2 ^ 31 → (s.link .table).causes = [] →
        exec .presentationTimerExpiry s = .next
          (({ s with arbiter := { s.arbiter with presentTimer := none } }).enterAbort .table .presentExpired false)))
    ∧ (∀ h t, s.arbiter.grantTimer.get h = some t →
      (2 ^ 31 ≤ (s.lineTime - t).toNat → exec (.grantTimerExpiry h) s = .next s)
      ∧ ((s.lineTime - t).toNat < 2 ^ 31 → (s.link h.port).causes = [] →
        exec (.grantTimerExpiry h) s = .next (({ s with arbiter := { s.arbiter with
          grantTimer := s.arbiter.grantTimer.set h none } }).enterAbort h.port .grantExpired false)))
    ∧ (∀ t, s.dispenser.hold = some t →
      (2 ^ 31 ≤ (s.lineTime - t).toNat → exec .dispenseHoldExpiry s = .next s)
      ∧ ((s.lineTime - t).toNat < 2 ^ 31 → (s.link .dispense).causes = [] →
        exec .dispenseHoldExpiry s = .next
          (({ s with dispenser := { s.dispenser with hold := none } }).enterAbort .dispense .dispenseExpired false)))
    ∧ ∀ h t, s.placement.hold.get h = some t →
      (2 ^ 31 ≤ (s.lineTime - t).toNat → exec (.placeHoldExpiry h) s = .next s)
      ∧ ∀ (a : Assigned) (st : Stamp) (g : Head) (since : Time) (late : Bool), (s.lineTime - t).toNat < 2 ^ 31 →
        (s.link h.port).causes = [] → s.assignedOf h = some a →
        s.siteAt a.position a.row = some (.assigned st g since late) →
        exec (.placeHoldExpiry h) s = .next ((((((s.spoil a.strip a.column a.row a.position .placeUnknown
          (some st)).moveDie a.wafer a.die .lost (some .placeUnknown) none).removeClaim h a.die .carried).notify .dieLost
          [word a.die, a.wafer, 11, word h.code]).endAssignment h).enterAbort h.port .placeExpired false)

/-- POT_LIFE_EXPIRY and HELD_REQUEST_WAIT_EXPIRY (R45, R97, R106, R107, R121), on a part with no request waiting. A WET
site spoils EXPIRED and a held NEXT-SITE is re-evaluated; an ASSIGNED site becomes late and stays. A held request whose
wait has run out is answered TIMEOUT, and a PLACE leaves the placer queue; requests waiting behind it may then be taken in
the same event (R181). A timer that has not run out does not expire. -/
def Obligations.PotLifeAndWaitExpiriesEndAtTheirTime : Prop :=
  (∀ s : State, (∀ q, (s.link q).requests = []) →
    (∀ (strip : Word) (column row p : Nat) (st : Stamp), s.findSite strip column row = some (p, .wet st) →
      ((s.lineTime - st.deadline).toNat < 2 ^ 31 → exec (.potLifeExpiry strip column row) s = .next
        ((s.spoil strip column row p .expired (some st)).serveNextSite))
      ∧ (2 ^ 31 ≤ (s.lineTime - st.deadline).toNat → exec (.potLifeExpiry strip column row) s = .next s))
    ∧ (∀ (strip : Word) (column row p : Nat) (st : Stamp) (h : Head) (since : Time),
      s.findSite strip column row = some (p, .assigned st h since false) →
      (s.lineTime - st.deadline).toNat < 2 ^ 31 → exec (.potLifeExpiry strip column row) s = .next
        (s.setSite p row (.assigned st h since true)))
    ∧ (∀ (strip : Word) (column row : Nat), (∀ p x, s.findSite strip column row = some (p, x) → x.potExpiry = none) →
      exec (.potLifeExpiry strip column row) s = .next s)
    ∧ ∀ (p : Port) (x : Held) (t : Time), (s.link p).held = some x → x.expiry = some t →
      (2 ^ 31 ≤ (s.lineTime - t).toNat → exec (.heldRequestWaitExpiry p) s = .next s)
      ∧ ((s.lineTime - t).toNat < 2 ^ 31 →
        (x.request.code ≠ Command.place.code → exec (.heldRequestWaitExpiry p) s = .next
          (s.setLink p ((s.link p).answer x .timeout [])))
        ∧ ∀ h, p = h.port → x.request.code = Command.place.code → exec (.heldRequestWaitExpiry p) s = .next
          (({ s with placement := { s.placement with
            queue := s.placement.queue.filter fun e => e.head != h } }).setLink p ((s.link p).answer x .timeout []))))
    ∧ ∀ (s : State) (p : Port) (x : Held) (t : Time), (s.link p).held = some x → x.expiry = some t →
      (s.lineTime - t).toNat < 2 ^ 31 → x.request.code ≠ Command.place.code →
      exec (.heldRequestWaitExpiry p) s = .next (s.setLink p ((s.link p).answer x .timeout [])).settle

/-! ## Settings and line modes -/

/-- SET, and its four rows whose write has an effect (R169, R14, R20, R35, R119). A SET of an unknown id is BADPARAM; one
that needs SETUP in another mode is MODE; a geometry setting with the track not clear is STATE; a configuration value with
a bit that is not used is BADPARAM. Every other SET stores the value, or its nearest bound, field by field for a
configuration word, in its own setting alone, answers DONE or CLAMPED with what is stored, and has the write's effect. -/
def Obligations.SetStoresAValueInRangeAndTakesEffect : Prop :=
  (∀ (s : State) (i : Instr) (tag : Byte) (id : Word) (v : BitVec 32) (n : Nat) (a u : State) (stored : Int),
      s.Idle .cell → n = id.toNat → a = s.handed .cell .set tag [id, v.extractLsb' 16 16, v.extractLsb' 0 16] →
      (i = .set tag [id, v.extractLsb' 16 16, v.extractLsb' 0 16] ∨ (n = 28 ∧ i = .writeBinSet tag v)
        ∨ (n = 7 ∧ i = .writeDriftMax tag v) ∨ (n = 29 ∧ i = .writeWaferLow tag v)
        ∨ (n = 18 ∧ i = .writePlaceLead tag v)) →
      stored = storedValue n v.toInt → u = { a with settings := s.settings.put n stored } →
      (n = 0 ∨ 38 < n → exec i s = .next (a.reply .cell tag .badparam []))
      ∧ (n ∈ [1, 2, 3, 4, 7, 9, 10, 11, 15, 16, 17, 19, 20, 21, 22, 23, 24, 25, 26, 27] → s.mode ≠ .setup →
        exec i s = .next (a.reply .cell tag .mode []))
      ∧ (n ∈ [17, 19, 21, 22, 23, 24, 25, 26, 27] → s.mode = .setup →
        (∃ p c, s.columnAt p = some c) ∨ s.track.strips ≠ [] → exec i s = .next (a.reply .cell tag .state []))
      ∧ (30 ≤ n → n ≤ 38 → (v.toInt < 0 ∨ (if n ≤ 34 then 32 else 128) ≤ v.toInt) →
        exec i s = .next (a.reply .cell tag .badparam []))
      ∧ (1 ≤ n → n ≤ 38 →
        (n ∈ [1, 2, 3, 4, 7, 9, 10, 11, 15, 16, 17, 19, 20, 21, 22, 23, 24, 25, 26, 27] → s.mode = .setup) →
        (n ∈ [17, 19, 21, 22, 23, 24, 25, 26, 27] → (∀ p, s.columnAt p = none) ∧ s.track.strips = []) →
        (30 ≤ n → 0 ≤ v.toInt ∧ v.toInt < (if n ≤ 34 then 32 else 128)) →
        exec i s = .next ((if n = 28 then
            ({ u with map := { s.map with
              rescan := true
              waferEmpty := false
              eligible := if s.readyWafer.isSome then u.countEligible else s.map.eligible } }).evalWaferLow
          else if n = 7 then { u with drift :=
            ⟨max (-stored) (min stored s.drift.dx), max (-stored) (min stored s.drift.dy)⟩ }
          else if n = 29 then u.evalWaferLow
          else if n = 18 then u.servePlacers
          else u).reply .cell tag (if stored = v.toInt then .done else .clamped)
            [(BitVec.ofInt 32 stored).extractLsb' 16 16, (BitVec.ofInt 32 stored).extractLsb' 0 16])))
    ∧ (∀ (n : Nat) (z : Int),
        (1 ≤ n → n ≤ 29 → storedValue n z = max (settingRange n).1 (min (settingRange n).2 z))
        ∧ (30 ≤ n → n ≤ 34 → 0 ≤ z → z < 32 → storedValue n z = z / 16 * 16 + max 1 (min 8 (z % 16)))
        ∧ (35 ≤ n → n ≤ 38 → 0 ≤ z → z < 128 → storedValue n z = z / 64 * 64 + min 2 (z / 16 % 4) * 16 + z % 16))
    ∧ (∀ (t : Settings) (m n : Nat) (z : Int), m ≠ n → (t.put n z).get m = t.get m)
    ∧ (List.range 29).map (fun k => settingRange (k + 1))
      = [(-2000000, 2000000), (-2000000, 2000000), (-2000000, 2000000), (-2000000, 2000000), (0, 4095), (0, 16), (0, 2047),
        (0, 3), (1, 2), (5, 1000), (5, 2000), (0, 10000), (0, 10000), (0, 10000), (10, 5000), (10, 5000), (1, 65535),
        (0, 5000), (1, 64), (0, 7), (8, 64), (1, 8), (0, 63), (0, 63), (0, 63), (0, 63), (0, 3), (0, 65535), (0, 32767)]

/-- GET (R170). BADPARAM unless it carries one word, a setting id of 1 to 38; else DONE with the stored value as a signed
32-bit number, and nothing else changes. A configuration setting within its range has every unused bit 0, and what a SET
stored, clamped or not, is what is read. It is available in every mode but INIT, in which its frame is discarded. -/
def Obligations.GetReadsTheStoredValue : Prop :=
  (∀ (s : State) (tag : Byte) (words : List Word), s.Idle .cell → words.length ≤ 24 →
      (words.length ≠ 1 ∨ (∃ id : Word, words = [id] ∧ (id.toNat = 0 ∨ 38 < id.toNat)) →
        exec (.get tag words) s = .next (s.answered .cell (Command.get.request tag words) .badparam []))
      ∧ ∀ id : Word, words = [id] → 1 ≤ id.toNat → id.toNat ≤ 38 →
        exec (.get tag words) s = .next (s.answered .cell (Command.get.request tag words) .done
          [(BitVec.ofInt 32 (s.settings.get id.toNat)).extractLsb' 16 16,
            (BitVec.ofInt 32 (s.settings.get id.toNat)).extractLsb' 0 16]))
    ∧ (∀ (t : Settings) (n : Nat), t.InRange →
        (30 ≤ n → n ≤ 34 → 0 ≤ t.get n ∧ t.get n < 32) ∧ (35 ≤ n → n ≤ 38 → 0 ≤ t.get n ∧ t.get n < 128))
    ∧ (∀ (t : Settings) (n : Nat) (z : Int), 1 ≤ n → n ≤ 38 → (30 ≤ n → configOk n z = true) →
        (t.put n (storedValue n z)).get n = storedValue n z)
    ∧ ∀ (s : State) (tag : Byte) (words : List Word), s.inReset = false → s.mode = .init → words.length ≤ 24 →
      exec (.get tag words) s = .next (s.setLink .cell { s.link .cell with
        selectLow := false
        frame := none
        lost := true
        lostFrames := min ((s.link .cell).lostFrames + 1) 65535
        sdo := s.statusByte .cell :: List.replicate (2 + 2 * words.length) 0 })

/-- START, DRAIN, RESUME and STOP (R162, R163, R164, R166, R167). START checks the four windows in the order of their ids
and names the first that fails; STOP names in the bits of BUSY what keeps the line from stopping. Accepted, the mode
changes and DONE names it; leaving RUN requests both reports, and leaving HALT makes LINE-HALT not sticky on ports 1 to 4. -/
def Obligations.ModeChangesEnterTheModeTheyAskFor : Prop :=
  ∀ (s : State) (tag : Byte) (loose : Link → Link) (quiet : PerPort Link → PerPort Link), s.Idle .cell →
    (∀ l, loose l = { l with
      causes := l.causes.map fun m => if m.cause = .lineHalt then { m with sticky := false } else m }) →
    (∀ ls, quiet ls = { ls with
      headA := loose ls.headA, headB := loose ls.headB, table := loose ls.table, dispense := loose ls.dispense }) →
    (∀ (a : State) (checks : List (Nat × Bool)), a = s.handed .cell .start tag [] → s.mode = .setup →
      checks = [(23, decide (s.settings.dispenseStart ≤ s.settings.dispenseEnd
            ∧ s.settings.dispenseStart < s.settings.trackLength)),
          (24, decide (s.settings.dispenseEnd < s.settings.trackLength)),
          (25, decide (s.settings.bondStart ≤ s.settings.bondEnd ∧ s.settings.bondStart < s.settings.trackLength)),
          (26, decide (s.settings.bondEnd < s.settings.trackLength))] →
      (∀ (k id : Nat), checks[k]? = some (id, false) →
        (∀ (j : Nat) (x : Nat × Bool), j < k → checks[j]? = some x → x.2 = true) →
        exec (.start tag []) s = .next (a.reply .cell tag .badparam [word id]))
      ∧ ((∀ x ∈ checks, x.2 = true) →
        exec (.start tag []) s = .next (({ a with mode := .run }).reply .cell tag .done [2])))
    ∧ (∀ a : State, a = s.handed .cell .drain tag [] →
      (s.mode = .run → exec (.drain tag []) s = .next (({ a with
        mode := .drain
        reports := ⟨s.reports.claimUnit + 1, s.reports.dispenseSequencer + 1⟩ }).reply .cell tag .done [3]))
      ∧ (s.mode = .halt → exec (.drain tag []) s = .next (({ a with
        mode := .drain, links := quiet a.links }).reply .cell tag .done [3])))
    ∧ (∀ a : State, a = s.handed .cell .resume tag [] →
      (s.mode = .drain → exec (.resume tag []) s = .next (({ a with mode := .run }).reply .cell tag .done [2]))
      ∧ (s.mode = .halt → exec (.resume tag []) s = .next (({ a with
        mode := .run, links := quiet a.links }).reply .cell tag .done [2])))
    ∧ ∀ a : State, a = s.handed .cell .stop tag [] → s.mode = .run ∨ s.mode = .drain ∨ s.mode = .halt →
      (s.claimsOf .A = [] → s.claimsOf .B = [] → s.arbiter.station = .free →
        (∀ p r x, s.siteAt p r = some x → x.inFlight = false) → s.track.phase = .still →
        exec (.stop tag []) s = .next (({ a with
          mode := .setup
          reports := if s.mode = LineMode.run then ⟨s.reports.claimUnit + 1, s.reports.dispenseSequencer + 1⟩ else s.reports
          links := if s.mode = LineMode.halt then quiet a.links else a.links }).reply .cell tag .done [1]))
      ∧ (s.stopBusy ≠ 0 → exec (.stop tag []) s = .next (a.reply .cell tag .busy [word s.stopBusy]))
      ∧ (s.stopBusy.testBit 0 = true ↔ s.claimsOf .A ≠ []) ∧ (s.stopBusy.testBit 1 = true ↔ s.claimsOf .B ≠ [])
      ∧ (s.stopBusy.testBit 2 = true ↔ s.arbiter.station ≠ .free)
      ∧ (s.stopBusy.testBit 3 = true ↔ ∃ p r t, s.siteAt p r = some (.dispensing t))
      ∧ (s.stopBusy.testBit 4 = true ↔ ∃ p r st h t l, s.siteAt p r = some (.assigned st h t l))
      ∧ (s.stopBusy.testBit 5 = true ↔ s.track.phase ≠ .still) ∧ s.stopBusy < 64

/-- HALT and LEAVING_RUN_REPORT (R164, R165, R166). HALT is answered DONE in mode HALT; leaving RUN by it requests both
reports; ports 1 to 4 are each asked to enter abort, a port already aborted gaining LINE-HALT as a sticky cause at once
(log entry 6). A report answers the requests it ends MODE: the held RESERVEs, or a held NEXT-SITE; without one requested
nothing happens (log entry 5). -/
def Obligations.HaltAsksFourPortsAndReportsEndHeldRequests : Prop :=
  (∀ (s : State) (tag : Byte) (a : State) (ask : Link → Link), s.Idle .cell → s.mode = .run ∨ s.mode = .drain →
      a = s.handed .cell .halt tag [] →
      (∀ l, ask l = if l.causes = [] then { l with haltEntries := l.haltEntries + 1 }
        else { l with causes := addCause l.causes .lineHalt true }) →
      exec (.halt tag []) s = .next (({ a with
        mode := .halt
        reports := if s.mode = LineMode.run then ⟨s.reports.claimUnit + 1, s.reports.dispenseSequencer + 1⟩ else s.reports
        links := { a.links with
          headA := ask (s.link .headA)
          headB := ask (s.link .headB)
          table := ask (s.link .table)
          dispense := ask (s.link .dispense) } }).reply .cell tag .done [4]))
    ∧ (∀ (cs : List CauseMark) (c : AbortCause) (sticky : Bool),
        ((∀ m ∈ cs, m.cause ≠ c) → addCause cs c sticky = cs ++ [⟨c, sticky⟩])
        ∧ ((∃ m ∈ cs, m.cause = c) → addCause cs c sticky
          = cs.map fun m => if m.cause = c then { m with sticky := m.sticky || sticky } else m))
    ∧ ∀ (s : State) (ends : Byte → Link → Link), (∀ q, (s.link q).requests = []) →
      (∀ code l x, l.held = some x → ends code l = if x.request.code = code then l.answer x .mode [] else l) →
      (∀ code l, l.held = none → ends code l = l) →
      (s.reports.claimUnit = 0 → exec (.leavingRunReport .claimUnit) s = .next s)
      ∧ (s.reports.dispenseSequencer = 0 → exec (.leavingRunReport .dispenseSequencer) s = .next s)
      ∧ (∀ k, s.reports.claimUnit = k + 1 → exec (.leavingRunReport .claimUnit) s = .next { s with
          reports := { s.reports with claimUnit := k }
          links := { s.links with
            headA := ends Command.reserve.code (s.link .headA)
            headB := ends Command.reserve.code (s.link .headB) } })
      ∧ ∀ k, s.reports.dispenseSequencer = k + 1 → exec (.leavingRunReport .dispenseSequencer) s = .next { s with
          reports := { s.reports with dispenseSequencer := k }
          links := { s.links with dispense := ends Command.nextSite.code (s.link .dispense) } }

/-! ## The die map on the cell port -/

/-- MAP-OPEN and MAP-ALIGN (R4, R5, R10). MAP-OPEN is STATE with a map present or the wafer id claimed; MAP-ALIGN is STATE
without a READY map or with the station not FREE. The fields are checked in word order, for MAP-OPEN the die count against
the grid last, and BADPARAM gives the position of the first that fails. Accepted, MAP-OPEN begins an empty LOADING map and
MAP-ALIGN replaces the transform; both set the drift to 0. -/
def Obligations.MapOpenAndAlignTakeFieldsInRange : Prop :=
  ∀ (s : State) (tag : Byte) (c0 r0 : Word) (x0 y0 dxc dyc dxr dyr : BitVec 32) (steps : List Word) (tr : Transform)
      (good : Nat → Nat → Nat → List (Nat × Bool)), s.Idle .cell →
    steps = [c0, r0] ++ words32 x0 ++ words32 y0 ++ words32 dxc ++ words32 dyc ++ words32 dxr ++ words32 dyr →
    tr = ⟨c0.toNat, r0.toNat, x0.toInt, y0.toInt, dxc.toInt, dyc.toInt, dxr.toInt, dyr.toInt⟩ →
    (∀ i columns rows, good i columns rows = [(i, decide (tr.c0 < columns)), (i + 1, decide (tr.r0 < rows)),
      (i + 2, decide (-8388607 ≤ tr.x0 ∧ tr.x0 ≤ 8388607)), (i + 4, decide (-8388607 ≤ tr.y0 ∧ tr.y0 ≤ 8388607)),
      (i + 6, decide (-134217727 ≤ tr.dxc ∧ tr.dxc ≤ 134217727)),
      (i + 8, decide (-134217727 ≤ tr.dyc ∧ tr.dyc ≤ 134217727)),
      (i + 10, decide (-134217727 ≤ tr.dxr ∧ tr.dxr ≤ 134217727)),
      (i + 12, decide (-134217727 ≤ tr.dyr ∧ tr.dyr ≤ 134217727))]) →
    (∀ (wafer n columns rows : Word) (words : List Word) (a : State) (checks : List (Nat × Bool)),
      words = [wafer, n, columns, rows] ++ steps → a = s.handed .cell .mapOpen tag words →
      checks = [(1, decide (1 ≤ n.toNat ∧ n.toNat ≤ 32768)), (2, decide (1 ≤ columns.toNat ∧ columns.toNat ≤ 512)),
        (3, decide (1 ≤ rows.toNat ∧ rows.toNat ≤ 512))] ++ good 4 columns.toNat rows.toNat
        ++ [(1, decide (n.toNat ≤ columns.toNat * rows.toNat))] →
      (s.map.phase ≠ .none ∨ (∃ h, ∃ c ∈ s.claimsOf h, c.wafer = wafer) →
        exec (.mapOpen tag words) s = .next (a.reply .cell tag .state []))
      ∧ (s.map.phase = .none → (∀ h, ∀ c ∈ s.claimsOf h, c.wafer ≠ wafer) →
        (∀ (k pos : Nat), checks[k]? = some (pos, false) →
          (∀ (j : Nat) (x : Nat × Bool), j < k → checks[j]? = some x → x.2 = true) →
          exec (.mapOpen tag words) s = .next (a.reply .cell tag .badparam [word pos]))
        ∧ ((∀ x ∈ checks, x.2 = true) → exec (.mapOpen tag words) s = .next (({ a with
          map := { DieMap.reset with phase := .loading ⟨wafer, n.toNat, columns.toNat, rows.toNat, tr⟩ }
          drift := ⟨0, 0⟩ }).reply .cell tag .done []))))
    ∧ ∀ a : State, a = s.handed .cell .mapAlign tag steps →
      ((∀ w, s.map.phase ≠ .ready w) ∨ s.arbiter.station ≠ .free →
        exec (.mapAlign tag steps) s = .next (a.reply .cell tag .state []))
      ∧ ∀ w, s.map.phase = .ready w → s.arbiter.station = .free →
        (∀ (k pos : Nat), (good 0 w.columns w.rows)[k]? = some (pos, false) →
          (∀ (j : Nat) (x : Nat × Bool), j < k → (good 0 w.columns w.rows)[j]? = some x → x.2 = true) →
          exec (.mapAlign tag steps) s = .next (a.reply .cell tag .badparam [word pos]))
        ∧ ((∀ x ∈ good 0 w.columns w.rows, x.2 = true) → exec (.mapAlign tag steps) s = .next (({ a with
          map := { s.map with phase := .ready { w with transform := tr } }
          drift := ⟨0, 0⟩ }).reply .cell tag .done []))

/-- MAP-DIE (R6, R7). A word count that is even or outside 3 to 23 is BADPARAM; STATE unless the map is LOADING; BADPARAM
when the start index is not the next index; each with the next index and 0. The entries are stored in order up to the
first that is refused: FULL when the map holds all its die, BADPARAM outside the grid or with bits 11:9 set, STATE at a
position marked before. The reply gives that code, or DONE, with the next index after it and the number stored. -/
def Obligations.MapDieStoresEntriesInOrder : Prop :=
  (∀ (s : State) (tag : Byte) (words : List Word), s.Idle .cell → words.length ≤ 24 →
      (words.length % 2 = 0 ∨ words.length < 3 ∨ 23 < words.length) →
      exec (.mapDie tag words) s = .next (s.answered .cell (Command.mapDie.request tag words) .badparam
        [word s.map.nextIndex, 0]))
    ∧ (∀ (s : State) (tag : Byte) (start : Word) (entries : List (Word × Word)) (words : List Word) (a : State),
      s.Idle .cell → 1 ≤ entries.length → entries.length ≤ 11 →
      words = start :: entries.flatMap (fun e => [e.1, e.2]) → a = s.handed .cell .mapDie tag words →
      ((∀ w, s.map.phase ≠ .loading w) →
        exec (.mapDie tag words) s = .next (a.reply .cell tag .state [word s.map.nextIndex, 0]))
      ∧ ∀ w, s.map.phase = .loading w →
        (start.toNat ≠ s.map.nextIndex →
          exec (.mapDie tag words) s = .next (a.reply .cell tag .badparam [word s.map.nextIndex, 0]))
        ∧ (start.toNat = s.map.nextIndex → ∀ (code : ReplyCode) (k : Nat) (m : DieMap),
          storeEntries w (entries.map fun e => ⟨e.1.toNat, e.2.toNat % 512, e.2.toNat / 4096, e.2.toNat / 512 % 8⟩) s.map
            = (code, k, m) →
          exec (.mapDie tag words) s = .next (({ a with map := m }).reply .cell tag code [word m.nextIndex, word k])))
    ∧ ∀ (w : WaferInfo) (m : DieMap),
      storeEntries w [] m = (.done, 0, m)
      ∧ ∀ (e : MapEntry) (rest : List MapEntry),
        (m.nextIndex = w.dieCount → storeEntries w (e :: rest) m = (.full, 0, m))
        ∧ (m.nextIndex ≠ w.dieCount → w.columns ≤ e.column ∨ w.rows ≤ e.row ∨ e.spare ≠ 0 →
          storeEntries w (e :: rest) m = (.badparam, 0, m))
        ∧ (m.nextIndex ≠ w.dieCount → e.column < w.columns → e.row < w.rows → e.spare = 0 →
          (m.bitmap.contains (e.column, e.row) = true → storeEntries w (e :: rest) m = (.state, 0, m))
          ∧ (m.bitmap.contains (e.column, e.row) = false → ∀ (code : ReplyCode) (k : Nat) (z : DieMap),
            storeEntries w rest { m with
              table := m.table ++ [⟨e.column, e.row, e.bin, .available, 0, none, none⟩]
              bitmap := (e.column, e.row) :: m.bitmap
              counts := { m.counts with available := m.counts.available + 1 }
              nextIndex := m.nextIndex + 1 } = (code, k, z) →
            storeEntries w (e :: rest) m = (code, k + 1, z)))

/-- MAP-CLOSE (R8). STATE with the next index and the die count, both 0 without a map, unless every die of a LOADING map
is stored. Then the map is READY with its scan at the start and its eligible die counted, the wafer-low condition is
evaluated, DONE gives the count, and the held RESERVEs are re-evaluated. -/
def Obligations.MapCloseMakesTheMapReady : Prop :=
  ∀ (s : State) (tag : Byte) (a : State), s.Idle .cell → a = s.handed .cell .mapClose tag [] →
    (s.map.phase = .none → exec (.mapClose tag []) s = .next (a.reply .cell tag .state [0, 0]))
    ∧ (∀ w, s.map.phase = .ready w ∨ (s.map.phase = .loading w ∧ s.map.nextIndex < w.dieCount) →
      exec (.mapClose tag []) s = .next (a.reply .cell tag .state [word s.map.nextIndex, word w.dieCount]))
    ∧ ∀ (w : WaferInfo) (n : Nat), s.map.phase = .loading w → s.map.nextIndex = w.dieCount →
      n = s.map.table.countP (fun d => d.state == .available && s.settings.binSet.getLsbD d.bin) →
      exec (.mapClose tag []) s = .next (((({ a with map := { s.map with
        phase := .ready w
        cursor := 0
        rescan := false
        returned := []
        eligible := n } }).evalWaferLow).reply .cell tag .done [word n]).wakeReserves)

/-- MAP-ABANDON (R9). It carries no words. In LOADING the map becomes NONE, with the nine counts and the next index 0, and
DONE gives the number of records that had been stored; they are no longer readable, for READ-DIE answers STATE in NONE. In
NONE and in READY the reply is STATE and nothing changes; a READY map is ended by WAFER-CLOSE. -/
def Obligations.MapAbandonMakesALoadingMapNone : Prop :=
  ∀ (s : State) (tag : Byte) (a : State), s.Idle .cell → a = s.handed .cell .mapAbandon tag [] →
    (∀ words, words ≠ [] → words.length ≤ 24 →
      exec (.mapAbandon tag words) s
        = .next (s.answered .cell (Command.mapAbandon.request tag words) .badparam []))
    ∧ (∀ w, s.map.phase = .loading w → s.MapCounted →
      ∃ m : DieMap, exec (.mapAbandon tag []) s
          = .next (({ a with map := m }).reply .cell tag .done [word s.map.table.length])
        ∧ m = { s.map with phase := .none, nextIndex := 0, counts := DieCounts.zero, returned := [] })
    ∧ ((∀ w, s.map.phase ≠ .loading w) → exec (.mapAbandon tag []) s = .next (a.reply .cell tag .state []))
    ∧ (s.map.phase = .none → ∀ index, exec (.readDie tag [index]) s
        = .next (s.answered .cell (Command.readDie.request tag [index]) .state []))
    ∧ ∀ w, s.map.phase = .ready w → s.map.counts.reserved = 0 → s.map.counts.staging = 0 → s.map.counts.presented = 0 →
      ∃ t, exec (.waferClose tag []) s = .next t ∧ t.map.phase = .none

/-- WAFER-CLOSE and RESOLVE (R11, R22). Both are STATE without a READY map. WAFER-CLOSE is STATE while a die is RESERVED,
STAGING or PRESENTED; else it queues WAFER-CLOSED, makes the map NONE with the latches kept, and gives the counts as they
stood. The next index becomes 0 with it (the model's reading, log entry 12). RESOLVE is BADPARAM for a die index or a
disposition out of range, STATE for a die not SUSPECT, and else moves the die to AVAILABLE or to REJECTED. -/
def Obligations.WaferCloseAndResolveEndTheWafersOpenDie : Prop :=
  ∀ (s : State) (tag : Byte), s.Idle .cell →
    ((∀ w, s.map.phase ≠ .ready w) →
      exec (.waferClose tag []) s = .next (s.answered .cell (Command.waferClose.request tag []) .state [])
      ∧ ∀ index d, exec (.resolve tag [index, d]) s
        = .next (s.answered .cell (Command.resolve.request tag [index, d]) .state []))
    ∧ ∀ w, s.map.phase = .ready w →
      (∀ (a u : State), a = s.handed .cell .waferClose tag [] →
        u = a.notify .waferClosed
          [w.wafer, word s.map.counts.placed, word s.map.counts.available, word s.map.counts.suspect] →
        (0 < s.map.counts.reserved + s.map.counts.staging + s.map.counts.presented →
          exec (.waferClose tag []) s = .next (a.reply .cell tag .state []))
        ∧ (s.map.counts.reserved + s.map.counts.staging + s.map.counts.presented = 0 →
          exec (.waferClose tag []) s = .next (({ u with map := { s.map with
            phase := .none
            nextIndex := 0
            counts := DieCounts.zero
            eligible := 0
            returned := []
            cursor := 0
            rescan := false } }).reply .cell tag .done
            ([w.wafer] ++ [s.map.counts.available, s.map.counts.reserved, s.map.counts.staging, s.map.counts.presented,
              s.map.counts.carried, s.map.counts.placed, s.map.counts.rejected, s.map.counts.suspect,
              s.map.counts.lost].map word))))
      ∧ ∀ (index disposition : Word) (a : State), a = s.handed .cell .resolve tag [index, disposition] →
        (w.dieCount ≤ index.toNat ∨ 1 < disposition.toNat →
          exec (.resolve tag [index, disposition]) s = .next (a.reply .cell tag .badparam []))
        ∧ ∀ d, index.toNat < w.dieCount → s.map.table[index.toNat]? = some d →
          (disposition.toNat ≤ 1 → d.state ≠ .suspect →
            exec (.resolve tag [index, disposition]) s = .next (a.reply .cell tag .state []))
          ∧ (d.state = .suspect → disposition = 0 → exec (.resolve tag [index, disposition]) s
            = .next ((a.moveDie w.wafer index.toNat .available none none).reply .cell tag .done [0]))
          ∧ (d.state = .suspect → disposition = 1 → exec (.resolve tag [index, disposition]) s
            = .next ((a.moveDie w.wafer index.toNat .rejected (some .resolved) none).reply .cell tag .done [6]))

/-- READ-DIE (R12). It carries one word, a die index. STATE when the map is NONE; BADPARAM when the index is not below the
next index; else DONE with nine words of the record of a LOADING or a READY map, the cause and the claimant 0 when absent.
It changes nothing. -/
def Obligations.ReadDieGivesTheRecord : Prop :=
  ∀ (s : State) (tag : Byte) (words : List Word) (a : State), s.Idle .cell → words.length ≤ 24 →
    a = s.handed .cell .readDie tag words →
    (words.length ≠ 1 → exec (.readDie tag words) s = .next (a.reply .cell tag .badparam []))
    ∧ ∀ index, words = [index] →
      (s.map.phase = .none → exec (.readDie tag words) s = .next (a.reply .cell tag .state []))
      ∧ ∀ w, s.map.phase = .loading w ∨ s.map.phase = .ready w →
        (s.map.nextIndex ≤ index.toNat → exec (.readDie tag words) s = .next (a.reply .cell tag .badparam []))
        ∧ (s.MapCounted → index.toNat < s.map.nextIndex → ∃ d, s.map.table[index.toNat]? = some d
          ∧ exec (.readDie tag words) s = .next (a.reply .cell tag .done
            [index, w.wafer, word d.column, word d.row, word d.bin, word d.state.code, word d.retries,
              (match d.cause with
                | none => 0
                | some c => word c.code),
              (match d.claimant with
                | none => 0
                | some .A => 1
                | some .B => 2)]))

/-! ## The track on the cell port -/

/-- STRIP-LOAD and STRIP-BAD (R74, R75, R76). STRIP-LOAD is BADPARAM at the first bad field, STATE for a strip id queued or
on the track, FULL with four strips queued, and else queues the strip with one mask for every column. STRIP-BAD makes the
named CLEAN sites of a column on the track ABSENT, or clears pads of a queued strip's column still to enter, and DONE
gives the number changed; BADPARAM names no column the strip has, STATE none there is. -/
def Obligations.StripLoadQueuesAndStripBadMarksPads : Prop :=
  (∀ (s : State) (tag : Byte) (id count mask : Word) (a : State), s.Idle .cell →
      a = s.handed .cell .stripLoad tag [id, count, mask] →
      (count.toNat < 1 ∨ 64 < count.toNat →
        exec (.stripLoad tag [id, count, mask]) s = .next (a.reply .cell tag .badparam [1]))
      ∧ (1 ≤ count.toNat → count.toNat ≤ 64 → 256 ≤ mask.toNat →
        exec (.stripLoad tag [id, count, mask]) s = .next (a.reply .cell tag .badparam [2]))
      ∧ (1 ≤ count.toNat → count.toNat ≤ 64 → mask.toNat < 256 →
        ((∃ st ∈ s.track.strips, st.id = id) ∨ (∃ p c, s.columnAt p = some c ∧ c.strip = id) →
          exec (.stripLoad tag [id, count, mask]) s = .next (a.reply .cell tag .state []))
        ∧ ((∀ st ∈ s.track.strips, st.id ≠ id) → (∀ p c, s.columnAt p = some c → c.strip ≠ id) →
          (4 ≤ s.track.strips.length →
            exec (.stripLoad tag [id, count, mask]) s = .next (a.reply .cell tag .full []))
          ∧ (s.track.strips.length < 4 →
            exec (.stripLoad tag [id, count, mask]) s = .next (({ a with track := { s.track with
              strips := s.track.strips
                ++ [(⟨id, count.toNat, 0, List.replicate count.toNat (mask.extractLsb' 0 8)⟩ : Strip)] } }).reply .cell tag
              .done
              [word (s.track.strips.length + 1)])))))
    ∧ (∀ (s : State) (tag : Byte) (id column mask : Word) (m : Byte) (a : State), s.Idle .cell →
      a = s.handed .cell .stripBad tag [id, column, mask] → m = mask.extractLsb' 0 8 →
      (256 ≤ mask.toNat ∨ 64 ≤ column.toNat →
        exec (.stripBad tag [id, column, mask]) s = .next (a.reply .cell tag .badparam []))
      ∧ (mask.toNat < 256 → column.toNat < 64 →
        (∀ p c u, s.findColumn id column.toNat = some p → s.columnAt p = some c →
          u = a.setColumn p (some { c with sites := markRows m 0 c.sites }) →
          exec (.stripBad tag [id, column, mask]) s = .next ((if countRows m 0 c.sites = 0 then u
            else u.serveNextSite).reply .cell tag .done [word (countRows m 0 c.sites)]))
        ∧ (s.findColumn id column.toNat = none →
          ((∀ st ∈ s.track.strips, st.id ≠ id) →
            exec (.stripBad tag [id, column, mask]) s = .next (a.reply .cell tag .state []))
          ∧ ∀ before st rest, s.track.strips = before ++ st :: rest → st.id = id →
            (∀ x ∈ before ++ rest, x.id ≠ id) →
            (st.count ≤ column.toNat →
              exec (.stripBad tag [id, column, mask]) s = .next (a.reply .cell tag .badparam []))
            ∧ (column.toNat < st.count → column.toNat < st.next →
              exec (.stripBad tag [id, column, mask]) s = .next (a.reply .cell tag .state []))
            ∧ (column.toNat < st.count → st.next ≤ column.toNat →
              exec (.stripBad tag [id, column, mask]) s = .next (({ a with track := { s.track with
                strips := before ++ { st with
                  masks := st.masks.set column.toNat (st.masks.getD column.toNat 0 &&& ~~~m) } :: rest } }).reply .cell
                tag .done [word ((List.range 8).countP fun r =>
                  (st.masks.getD column.toNat 0).getLsbD r && m.getLsbD r)])))))
    ∧ ∀ (m : Byte) (sites : List Site),
      (∀ r, (markRows m 0 sites)[r]? = sites[r]?.map fun x => if m.getLsbD r = true ∧ x = .clean then .absent else x)
      ∧ countRows m 0 sites = (List.range sites.length).countP fun r => m.getLsbD r && sites[r]? == some .clean

/-- INDEX-REQUEST, the drain test and INDEX-CANCEL (R78, R79, R80). An index of 1 to 8 asked for while the track is STILL
makes it DRAINING, DONE gives the number of sites DISPENSING or ASSIGNED, and the drain test follows: with none of them
the track is MOVING and INDEX-READY is queued. A cancel while DRAINING makes it STILL, with the held NEXT-SITE and PLACEs
re-evaluated. In any other track state the reply is STATE with that state. -/
def Obligations.IndexRequestDrainsTheTrack : Prop :=
  ∀ (s : State) (tag : Byte), s.Idle .cell →
    (∀ (n : Word) (a : State), s.mode ≠ .halt → a = s.handed .cell .indexRequest tag [n] →
      (n.toNat < 1 ∨ 8 < n.toNat → exec (.indexRequest tag [n]) s = .next (a.reply .cell tag .badparam []))
      ∧ (1 ≤ n.toNat → n.toNat ≤ 8 →
        (s.track.phase ≠ .still →
          exec (.indexRequest tag [n]) s = .next (a.reply .cell tag .state [word s.track.phase.code]))
        ∧ (s.track.phase = .still → exec (.indexRequest tag [n]) s
          = .next ((({ a with track := { s.track with phase := .draining n.toNat } }).reply .cell tag .done
            [word s.inFlight]).drainTest))))
    ∧ (∀ a : State, a = s.handed .cell .indexCancel tag [] →
      (∀ n, s.track.phase = .draining n → exec (.indexCancel tag []) s
        = .next ((({ a with track := { s.track with phase := .still } }).reply .cell tag .done
          []).serveNextSite.servePlacers))
      ∧ ((∀ n, s.track.phase ≠ .draining n) →
        exec (.indexCancel tag []) s = .next (a.reply .cell tag .state [word s.track.phase.code])))
    ∧ (s.inFlight = 0 ↔ ∀ p r x, s.siteAt p r = some x → (∀ t, x ≠ .dispensing t) ∧ ∀ st h t l, x ≠ .assigned st h t l)
    ∧ (∀ n, s.track.phase = .draining n →
      (s.inFlight ≠ 0 → s.drainTest = s)
      ∧ (s.inFlight = 0 → s.drainTest = ({ s with track := { s.track with phase := .moving n } }).notify .indexReady
        [word n, word ((List.range s.settings.trackLength).countP fun p =>
          decide (s.settings.trackLength - n ≤ p) && (s.columnAt p).isSome)]))
    ∧ ((∀ n, s.track.phase ≠ .draining n) → s.drainTest = s)

/-- INDEX-DONE and TRACK-CLEAR (R82, R83, R84, R85, R87). At the end of a move by n the columns of the last n positions
leave, the highest first, the entry pointer goes back by n, the new positions n - 1 down to 0 are filled from the strip
queue, DONE gives the four figures, and the track is STILL with the held requests re-evaluated. A column that leaves has
its CLEAN sites SKIPPED and its WET ones SPOILED EXITED, lowers the wet count, and queues COLUMN-EXIT. TRACK-CLEAR removes
every column and every strip. -/
def Obligations.IndexDoneShiftsAndTrackClearEmptiesTheTrack : Prop :=
  (∀ (s : State) (tag : Byte), s.Idle .cell →
      (∀ (a t : State) (n k : Nat), a = s.handed .cell .indexDone tag [] → s.track.phase = .moving n →
        t = (((s.leavingPositions n).foldl State.removeColumn a).moveEntry n).fillPositions n →
        k = (List.range n).countP (fun p => (t.columnAt p).isSome) →
        exec (.indexDone tag []) s = .next (({ t.reply .cell tag .done
          [word ((List.range s.settings.trackLength).countP fun p =>
              decide (s.settings.trackLength - n ≤ p) && (s.columnAt p).isSome),
            word k, word (n - k), word t.track.entry.val] with
          track := { t.track with phase := .still } }).serveNextSite.servePlacers))
      ∧ ((∀ n, s.track.phase ≠ .moving n) → exec (.indexDone tag []) s
        = .next (s.answered .cell (Command.indexDone.request tag []) .state [word s.track.phase.code]))
      ∧ (∀ a t : State, a = s.handed .cell .trackClear tag [] → s.mode = .setup → s.track.phase = .still →
        t = (List.range s.settings.trackLength).reverse.foldl State.removeColumn a →
        exec (.trackClear tag []) s = .next ((({ t with
          track := { t.track with strips := [], entry := 0 } }).serveNextSite).reply .cell tag .done
          [word ((List.range s.settings.trackLength).countP fun p => (s.columnAt p).isSome),
            word s.track.strips.length]))
      ∧ (s.mode = .setup → s.track.phase ≠ .still → exec (.trackClear tag []) s
        = .next (s.answered .cell (Command.trackClear.request tag []) .state [word s.track.phase.code])))
    ∧ (∀ (s : State) (n : Nat), n ≤ s.settings.trackLength →
        s.leavingPositions n = (List.range n).map fun k => s.settings.trackLength - 1 - k)
    ∧ (∀ (s : State) (n : Nat), n ≤ 8 →
        s.moveEntry n = { s with track := { s.track with entry := s.track.entry - Fin.ofNat 64 n } })
    ∧ (∀ (s : State) (n : Nat), s.fillPositions n = (List.range n).reverse.foldl State.fillPosition s)
    ∧ (∀ (s : State) (p : Nat), s.columnAt p = none → s.removeColumn p = s)
    ∧ (∀ (s : State) (p : Nat) (c : Column) (out : List Site), s.columnAt p = some c →
        out = c.sites.map (fun x => match x with
          | .clean => .skipped
          | .wet st => .spoiled .exited (some st)
          | y => y) →
        s.removeColumn p = ({ s with
          track := { s.track with ring := s.track.ring.set (s.track.slot p) none }
          dispenser := { s.dispenser with wet := s.dispenser.wet - c.sites.countP Site.isWet } }).notify .columnExit
          [c.strip, word c.column,
            bytePair (out.countP fun x : Site => x.code == 6) (out.countP fun x : Site => x.code == 7),
            bytePair (out.countP fun x : Site => x.code == 8) (out.countP fun x : Site => x.code == 1)])
    ∧ ∀ (s : State) (p : Nat),
      (s.track.strips = [] → s.fillPosition p = s)
      ∧ ∀ st rest, s.track.strips = st :: rest → s.fillPosition p = { s with track := { s.track with
        ring := s.track.ring.set (s.track.slot p) (some ⟨st.id, st.next, (List.range s.settings.rows).map fun r =>
          if (st.masks.getD st.next 0).getLsbD r then .clean else .absent⟩)
        strips := if st.next + 1 = st.count then rest else { st with next := st.next + 1 } :: rest } }

/-! ## The readings, the reports and the recovery on the cell port -/

/-- The requests that only read: CLAIMS and READ-CLAIMS (R41), READ-SITE (R89), READ-STATUS (R155), READ-STATION (R65) and
PORT-STATUS (R185), the last answered even while a request is held, whatever waits, with room kept for a held request's
reply (R183). DONE gives the words of the tables (R156 to R158 for the pages); BADPARAM for an unknown head, position, row or
page. Nothing else changes. The status byte and ATTN are read after the frame's own clearing of the lost flag and before
the reply joins its queue: DEDUCED, log entries 9 and 20. -/
def Obligations.ReadingsAnswerAndChangeNothing : Prop :=
  (∀ (s : State) (h : Head) (tag : Byte), s.Idle h.port →
      exec (.claims h tag []) s = .next (s.answered h.port (Command.claims.request tag []) .done
        (word (s.claimsOf h).length :: (s.claimsOf h).flatMap fun c =>
          [word c.die, c.wafer, word c.column, word c.row, word c.bin, word c.state.die.code, word c.retries]
            ++ words32 c.reserveTime)))
    ∧ (∀ (s : State) (tag : Byte), s.Idle .cell →
      (∀ h : Head, exec (.readClaims tag [word h.code]) s
        = .next (s.answered .cell (Command.readClaims.request tag [word h.code]) .done
          (word (s.claimsOf h).length :: (s.claimsOf h).flatMap fun c =>
            [word c.die, c.wafer, word c.column, word c.row, word c.bin, word c.state.die.code, word c.retries]
              ++ words32 c.reserveTime)))
      ∧ (∀ w : Word, w ≠ 1 → w ≠ 2 → exec (.readClaims tag [w]) s
        = .next (s.answered .cell (Command.readClaims.request tag [w]) .badparam []))
      ∧ (∀ p r : Word, s.settings.trackLength ≤ p.toNat ∨ 7 < r.toNat → exec (.readSite tag [p, r]) s
        = .next (s.answered .cell (Command.readSite.request tag [p, r]) .badparam []))
      ∧ (∀ p r : Word, p.toNat < s.settings.trackLength → r.toNat ≤ 7 → exec (.readSite tag [p, r]) s
        = .next (s.answered .cell (Command.readSite.request tag [p, r]) .done
          (siteWords (s.columnAt p.toNat) (s.siteAt p.toNat r.toNat))))
      ∧ (∀ k : Word, 2 < k.toNat → exec (.readStatus tag [k]) s
        = .next (s.answered .cell (Command.readStatus.request tag [k]) .badparam []))
      ∧ (∀ (k : Word) (a : State), k.toNat ≤ 2 → a = s.handed .cell .readStatus tag [k] →
        exec (.readStatus tag [k]) s = .next (a.reply .cell tag .done
          (if k = 0 then a.page0 else if k = 1 then a.page1 else a.page2)))
      ∧ exec (.readStation tag []) s
        = .next (s.answered .cell (Command.readStation.request tag []) .done s.stationWords))
    ∧ (∀ (s : State) (p : Port) (tag : Byte) (a : State), s.inReset = false → s.mode ≠ .init → s.Settled →
      (s.link p).replies.length ≤ 6 ∨ ((s.link p).held = none ∧ (s.link p).replies.length ≤ 7) →
      a = s.handed p .portStatus tag [] →
      exec (.portStatus p tag []) s = .next (a.reply p tag .done (a.portStatusWords p)))
    ∧ (∀ (s : State) (w : Word) (map : List Word) (flag : Bool → Nat → Nat), (∀ b n, flag b n = if b then n else 0) →
      ((s.map.phase = .none ∧ map = [0, 0, 0]) ∨ (∃ i, s.map.phase = .loading i ∧ map = [1, i.wafer, word i.dieCount])
        ∨ (∃ i, s.map.phase = .ready i ∧ map = [2, i.wafer, word i.dieCount])) →
      (s.mode = .setup ∧ w = 1) ∨ (s.mode = .run ∧ w = 2) ∨ (s.mode = .drain ∧ w = 3) ∨ (s.mode = .halt ∧ w = 4) →
      s.page0 = [w] ++ words32 s.lineTime ++ map
        ++ [word s.map.nextIndex, word s.map.counts.available, word s.map.counts.reserved, word s.map.counts.staging,
          word s.map.counts.presented, word s.map.counts.carried, word s.map.counts.placed, word s.map.counts.rejected,
          word s.map.counts.suspect, word s.map.counts.lost, word s.map.eligible, word s.map.returned.length,
          word s.map.cursor, word (flag s.map.rescan 1 + flag s.map.waferLow 2 + flag s.map.waferEmpty 4),
          BitVec.ofInt 16 s.drift.dx, BitVec.ofInt 16 s.drift.dy, word s.report.log.length,
          word (s.report.log.length + (s.claimsOf .A).length + (s.claimsOf .B).length)]
        ++ words32 s.report.nextSeq ++ [word s.report.notices.length, word s.report.dropped])
    ∧ (∀ (s : State) (track place queue : List Word) (grant : Option Time) (given : Head → List Word)
        (flag : Bool → Nat → Nat), (∀ b n, flag b n = if b then n else 0) →
      (s.track.phase = .still ∧ track = [0, 0]) ∨ (∃ n, s.track.phase = .draining n ∧ track = [1, word n])
        ∨ (∃ n, s.track.phase = .moving n ∧ track = [2, word n]) →
      (s.dispenser.site = none ∧ place = [0, 0, 0, 0]) ∨ (∃ d, s.dispenser.site = some d
        ∧ place = [d.strip, bytePair d.column d.row] ++ words32 d.handout) →
      (s.placement.queue = [] ∧ queue = [0, 0, 0])
        ∨ (∃ e, s.placement.queue = [e] ∧ queue = [word (1 + 16 * e.head.code), word e.die, 0])
        ∨ (∃ e f, s.placement.queue = [e, f]
          ∧ queue = [word (2 + 16 * e.head.code + 256 * f.head.code), word e.die, word f.die]) →
      (s.arbiter.station = .free ∧ grant = none)
        ∨ (∃ o, (s.arbiter.station = .ordered o ∨ ∃ t, s.arbiter.station = .delivered o t
            ∨ s.arbiter.station = .presented o t) ∧ grant = s.arbiter.grantTimer.get o.head) →
      (∀ h, (s.assignedOf h = none ∧ given h = [0, 0, 0]) ∨ (∃ a, s.assignedOf h = some a
        ∧ given h = [a.strip, bytePair a.column a.row, word a.position])) →
      s.page1 = track ++ [word s.track.entry.val,
          word ((List.range s.settings.trackLength).countP fun p => (s.columnAt p).isSome), word s.track.strips.length,
          word s.dispenser.wet,
          word (flag s.dispenser.site.isSome 1 + flag (s.assignedOf .A).isSome 2 + flag (s.assignedOf .B).isSome 4
            + flag s.arbiter.presentTimer.isSome 8 + flag grant.isSome 16), queue.getD 0 0]
        ++ place ++ wordsTime s.dispenser.hold
        ++ given .A ++ wordsTime (s.placement.hold.get .A) ++ given .B ++ wordsTime (s.placement.hold.get .B)
        ++ wordsTime s.arbiter.presentTimer ++ wordsTime grant ++ [queue.getD 1 0, queue.getD 2 0])
    ∧ (∀ (s : State) (flag : Bool → Nat → Nat), (∀ b n, flag b n = if b then n else 0) →
      s.page2 = [word s.capture.shot.queue.length, word s.capture.tda.queue.length, word s.capture.tdb.queue.length,
          word s.capture.shot.stray, word s.capture.tda.stray, word s.capture.tdb.stray,
          word s.capture.shot.lost, word s.capture.tda.lost, word s.capture.tdb.lost]
        ++ [.cell, .headA, .headB, .table, .dispense].map (fun p : Port =>
          bytePair (s.link p).requests.length (s.statusByte p).toNat)
        ++ [word (flag (s.headEnabled.get .A) 1 + flag (s.headEnabled.get .B) 2),
          word (flag (s.lampLevel 0) 1 + flag (s.lampLevel 1) 2 + flag (s.lampLevel 2) 4 + flag (s.lampLevel 3) 8
            + flag s.spoilLatch 16)]
        ++ [.cell, .headA, .headB, .table, .dispense].map (fun p : Port => word (s.link p).lostFrames))
    ∧ (∀ (s : State) (order waiting : List Word),
      (s.arbiter.station = .free ∧ order = List.replicate 10 0)
        ∨ (∃ (o : Order) (state : Word) (handout : Option Time),
          ((s.arbiter.station = .ordered o ∧ state = 1 ∧ handout = none)
            ∨ ∃ t, handout = some t ∧ ((s.arbiter.station = .delivered o t ∧ state = 2)
              ∨ (s.arbiter.station = .presented o t ∧ state = 3)))
          ∧ order = [state, word o.head.code, word o.die, o.wafer] ++ words32 (BitVec.ofInt 32 o.x)
            ++ words32 (BitVec.ofInt 32 o.y) ++ wordsTime handout) →
      (s.arbiter.waiting = [] ∧ waiting = [0, 0, 0, 0, 0])
        ∨ (∃ e, s.arbiter.waiting = [e] ∧ waiting = [1, word e.head.code, word e.die, 0, 0])
        ∨ (∃ e f, s.arbiter.waiting = [e, f]
          ∧ waiting = [2, word e.head.code, word e.die, word f.head.code, word f.die]) →
      s.stationWords = order ++ waiting)
    ∧ (∀ (s : State) (p : Port) (held : List Word),
      ((s.link p).held = none ∧ held = [0, 0, 0]) ∨ (∃ x, (s.link p).held = some x
        ∧ held = bytePair x.request.code.toNat x.request.tag.toNat :: wordsTime x.expiry) →
      s.portStatusWords p = [bytePair (s.link p).requests.length (s.link p).replies.length, held.getD 0 0,
          word ((s.statusByte p).toNat + if s.attn p then 256 else 0)] ++ held.drop 1
        ++ [word (s.link p).lostFrames, causeWord (s.link p).causes, word (s.link p).flushed]
        ++ wordsTime (s.link p).firstCause)
    ∧ (∀ hi lo : Nat, hi < 256 → lo < 256 → bytePair hi lo = word (256 * hi + lo))
    ∧ (∀ t : Time, wordsTime none = [0, 0] ∧ wordsTime (some t) = words32 t)
    ∧ (∀ (s : State) (c : Option Column) (x : Option Site), (siteWords c x).length = 16 ∧ s.page0.length = 28
      ∧ s.page1.length = 30 ∧ s.page2.length = 21)
    ∧ ∀ (c : Column) (st : Stamp) (t : Time) (h : Head) (late : Bool) (die : Nat) (wafer : Word) (reason : SpoilReason)
        (id : List Word), id = [c.strip, word c.column] →
      siteWords (some c) (some .absent) = [1] ++ id ++ List.replicate 13 0
      ∧ siteWords (some c) (some .clean) = [2] ++ id ++ List.replicate 13 0
      ∧ siteWords (some c) (some (.dispensing t)) = [3] ++ id ++ [0, 0, 0] ++ words32 t ++ List.replicate 8 0
      ∧ siteWords (some c) (some (.wet st))
        = [4] ++ id ++ [0, 0, 0, 0, 0] ++ words32 st.time ++ words32 st.deadline ++ [0, 0, 0, 0]
      ∧ siteWords (some c) (some (.assigned st h t late)) = [5] ++ id ++ [0, if late then 1 else 0, word h.code, 0, 0]
        ++ words32 st.time ++ words32 st.deadline ++ words32 t ++ [0, 0]
      ∧ siteWords (some c) (some (.bonded st late die wafer)) = [6] ++ id ++ [0, if late then 1 else 0, 0, 0, 0]
        ++ words32 st.time ++ words32 st.deadline ++ [0, 0, word die, wafer]
      ∧ siteWords (some c) (some (.spoiled reason (some st))) = [7] ++ id ++ [word reason.code, 0, 0, 0, 0]
        ++ words32 st.time ++ words32 st.deadline ++ [0, 0, 0, 0]
      ∧ siteWords (some c) (some (.spoiled reason none)) = [7] ++ id ++ [word reason.code] ++ List.replicate 12 0
      ∧ siteWords (some c) (some .skipped) = [8] ++ id ++ List.replicate 13 0
      ∧ siteWords (some c) none = [0] ++ id ++ List.replicate 13 0
      ∧ siteWords none none = List.replicate 16 0

/-- READ-LOG, READ-NOTICES and the notice queue (R148, R149, R151, R153, R154). The oldest records or notices, as many as
asked or as there are, leave the queue and are given whole; NONE when there is none, BADPARAM for a number out of range.
Records that leave wake the held RESERVEs. A notice joins as the newest, or with 32 waiting is dropped and counted; the
reading that frees a place queues NOTICES-DROPPED with the count, which returns to 0. A record is given as the fifteen words
of its layout (R147). -/
def Obligations.LogAndNoticesAreReadOldestFirst : Prop :=
  (∀ (s : State) (tag : Byte) (k : Word), s.Idle .cell →
      (∀ a : State, a = s.handed .cell .readLog tag [k] →
        (k.toNat < 1 ∨ 2 < k.toNat → exec (.readLog tag [k]) s = .next (a.reply .cell tag .badparam []))
        ∧ (1 ≤ k.toNat → k.toNat ≤ 2 →
          (s.report.log = [] → exec (.readLog tag [k]) s = .next (a.reply .cell tag .none []))
          ∧ (s.report.log ≠ [] → exec (.readLog tag [k]) s = .next ((({ a with report := { s.report with
            log := s.report.log.drop k.toNat } }).reply .cell tag .done
            ((s.report.log.take k.toNat).flatMap BondRecord.toWords)).wakeReserves))))
      ∧ ∀ a : State, a = s.handed .cell .readNotices tag [k] →
        (k.toNat < 1 ∨ 4 < k.toNat → exec (.readNotices tag [k]) s = .next (a.reply .cell tag .badparam []))
        ∧ (1 ≤ k.toNat → k.toNat ≤ 4 →
          (s.report.notices = [] → exec (.readNotices tag [k]) s = .next (a.reply .cell tag .none []))
          ∧ (s.report.notices ≠ [] → exec (.readNotices tag [k]) s = .next (({ a with report := { s.report with
            notices := if 0 < s.report.dropped then
                s.report.notices.drop k.toNat ++ [(⟨.noticesDropped, s.lineTime, [word s.report.dropped]⟩ : Notice)]
              else s.report.notices.drop k.toNat
            dropped := 0 } }).reply .cell tag .done ((s.report.notices.take k.toNat).flatMap fun n : Notice =>
            [bytePair n.data.length n.kind.code] ++ words32 n.time
              ++ [wordAt n.data 0, wordAt n.data 1, wordAt n.data 2, wordAt n.data 3])))))
    ∧ (∀ (s : State) (kind : NoticeKind) (data : List Word),
        (s.report.notices.length < 32 → s.notify kind data = { s with report := { s.report with
          notices := s.report.notices ++ [⟨kind, s.lineTime, data⟩] } })
        ∧ (32 ≤ s.report.notices.length → s.notify kind data = { s with report := { s.report with
          dropped := min (s.report.dropped + 1) 65535 } }))
    ∧ (∀ b : BondRecord, b.toWords.length = 15)
    ∧ ∀ b : BondRecord, b.bin ≤ 15 → b.dieColumn ≤ 511 → b.dieRow ≤ 511 → b.stripColumn ≤ 63 → b.position ≤ 63 →
      b.row ≤ 7 → b.retries ≤ 3 →
      b.toWords = words32 b.seq
        ++ [b.wafer, word b.die, word (b.bin * 2 ^ 12 + b.dieColumn), word b.dieRow, b.strip,
          word (b.stripColumn * 2 ^ 8 + b.position),
          word (b.row + b.head.code * 2 ^ 4 + (if b.late then 2 ^ 8 else 0) + b.retries * 2 ^ 10
            + (if b.stampSource = .arrival then 2 ^ 12 else 0) + (if b.bondSource = .arrival then 2 ^ 13 else 0))]
        ++ words32 b.stamp ++ words32 b.bondTime ++ words32 b.margin

/-- HEAD-ENABLE, FORFEIT and LAMP-ACK (R198, R199, R203). Disabling an enabled head makes HEAD-DISABLED reach its port as a
sticky cause; enabling a disabled one makes that cause not sticky; either repeated changes nothing, and DONE gives the
flag. FORFEIT of a disabled head removes the entry of its CARRIED die, which wakes the held RESERVEs, and then makes the die LOST
and queues its notice: STATE when the head is enabled, NONE when it carries nothing. LAMP-ACK clears the spoil latch and reports it. -/
def Obligations.RecoveryRequestsDisableForfeitAndAcknowledge : Prop :=
  ∀ (s : State) (tag : Byte), s.Idle .cell →
    (∀ (h : Head) (code : Word), code = word h.code →
      (∀ a : State, a = s.handed .cell .headEnable tag [code, 0] →
        (s.headEnabled.get h = true → exec (.headEnable tag [code, 0]) s = .next
          ((({ a with headEnabled := s.headEnabled.set h false }).causeReaches h.port .headDisabled true).reply .cell
            tag .done [0]))
        ∧ (s.headEnabled.get h = false →
          exec (.headEnable tag [code, 0]) s = .next (a.reply .cell tag .done [0])))
      ∧ (∀ a : State, a = s.handed .cell .headEnable tag [code, 1] →
        (s.headEnabled.get h = false → exec (.headEnable tag [code, 1]) s = .next
          ((({ a with headEnabled := s.headEnabled.set h true }).setLink h.port { s.link h.port with
            causes := (s.link h.port).causes.map fun m : CauseMark =>
              if m.cause = AbortCause.headDisabled then { m with sticky := false } else m }).reply .cell tag .done [1]))
        ∧ (s.headEnabled.get h = true →
          exec (.headEnable tag [code, 1]) s = .next (a.reply .cell tag .done [1])))
      ∧ ∀ a : State, a = s.handed .cell .forfeit tag [code] →
        (s.headEnabled.get h = true → exec (.forfeit tag [code]) s = .next (a.reply .cell tag .state []))
        ∧ (s.headEnabled.get h = false → s.carriedClaim h = none →
          exec (.forfeit tag [code]) s = .next (a.reply .cell tag .none []))
        ∧ ∀ c, s.headEnabled.get h = false → s.carriedClaim h = some c →
          exec (.forfeit tag [code]) s = .next ((((a.removeClaim h c.die .carried).wakeReserves.moveDie c.wafer c.die .lost
            (some .forfeit) none).notify .dieLost [word c.die, c.wafer, 10, code]).reply .cell tag .done
            [word c.die, c.wafer]))
    ∧ (∀ code on : Word, (code ≠ 1 ∧ code ≠ 2) ∨ 1 < on.toNat → exec (.headEnable tag [code, on]) s
        = .next (s.answered .cell (Command.headEnable.request tag [code, on]) .badparam []))
    ∧ (∀ code : Word, code ≠ 1 → code ≠ 2 → exec (.forfeit tag [code]) s
        = .next (s.answered .cell (Command.forfeit.request tag [code]) .badparam []))
    ∧ (∀ (t : State) (p : Port) (c : AbortCause) (sticky : Bool),
        ((t.link p).causes ≠ [] → t.causeReaches p c sticky
          = t.setLink p { t.link p with causes := addCause (t.link p).causes c sticky })
        ∧ ((t.link p).causes = [] → t.causeReaches p c sticky = t.enterAbort p c sticky)
        ∧ t.enterAbort p c sticky
          = ((t.setLink p ((t.link p).aborted c sticky t.lineTime)).notify .portAborted [word p.number, word c.code]).dispose
            p)
    ∧ ∀ a : State, a = s.handed .cell .lampAck tag [] →
      exec (.lampAck tag []) s = .next (({ a with spoilLatch := false }).reply .cell tag .done
        [if s.spoilLatch then 1 else 0])
end

