-- ==== Sys2Proof/Laws/State.lean ====
section
/-! SUPPORT. What each named update of the state does to each field: one lemma for each field of each update, true by
definition. -/

namespace Sys2Proof.Machine

open Sys2Proof

/-! ## Access by head, by port and by capture input -/

@[simp] theorem PerHead.get_set_self {α : Type} (x : PerHead α) (h : Head) (v : α) : (x.set h v).get h = v := by
  cases h <;> rfl

theorem PerHead.get_set_ne {α : Type} (x : PerHead α) {h k : Head} (v : α) (hk : k ≠ h) :
    (x.set h v).get k = x.get k := by
  cases h <;> cases k <;> first | rfl | exact absurd rfl hk

@[simp] theorem PerPort.get_set_self {α : Type} (x : PerPort α) (p : Port) (v : α) : (x.set p v).get p = v := by
  cases p <;> rfl

theorem PerPort.get_set_ne {α : Type} (x : PerPort α) {p q : Port} (v : α) (hq : q ≠ p) :
    (x.set p v).get q = x.get q := by
  cases p <;> cases q <;> first | rfl | exact absurd rfl hq

@[simp] theorem PerPort.set_set {α : Type} (x : PerPort α) (p : Port) (v w : α) : (x.set p v).set p w = x.set p w := by
  cases p <;> rfl

@[simp] theorem PerPort.set_get {α : Type} (x : PerPort α) (p : Port) : x.set p (x.get p) = x := by
  cases p <;> rfl

@[simp] theorem PerPort.get_map {α : Type} (f : α → α) (x : PerPort α) (p : Port) : (x.map f).get p = f (x.get p) := by
  cases p <;> rfl

@[simp] theorem PerInput.get_set_self {α : Type} (x : PerInput α) (i : CaptureInput) (v : α) :
    (x.set i v).get i = v := by
  cases i <;> rfl

theorem PerInput.get_set_ne {α : Type} (x : PerInput α) {i j : CaptureInput} (v : α) (hj : j ≠ i) :
    (x.set i v).get j = x.get j := by
  cases i <;> cases j <;> first | rfl | exact absurd rfl hj

@[simp] theorem PerInput.get_map {α : Type} (f : α → α) (x : PerInput α) (i : CaptureInput) :
    (x.map f).get i = f (x.get i) := by
  cases i <;> rfl

theorem link_eq (s : State) (p : Port) : s.link p = s.links.get p := rfl

/-! ## setLink -/

@[simp] theorem setLink_pending (s : State) (p : Port) (l : Link) : (s.setLink p l).pending = s.pending := rfl
@[simp] theorem setLink_choices (s : State) (p : Port) (l : Link) : (s.setLink p l).choices = s.choices := rfl
@[simp] theorem setLink_supplyLow (s : State) (p : Port) (l : Link) : (s.setLink p l).supplyLow = s.supplyLow := rfl
@[simp] theorem setLink_resetLow (s : State) (p : Port) (l : Link) : (s.setLink p l).resetLow = s.resetLow := rfl
@[simp] theorem setLink_mode (s : State) (p : Port) (l : Link) : (s.setLink p l).mode = s.mode := rfl
@[simp] theorem setLink_lineTime (s : State) (p : Port) (l : Link) : (s.setLink p l).lineTime = s.lineTime := rfl
@[simp] theorem setLink_reports (s : State) (p : Port) (l : Link) : (s.setLink p l).reports = s.reports := rfl
@[simp] theorem setLink_headEnabled (s : State) (p : Port) (l : Link) : (s.setLink p l).headEnabled = s.headEnabled := rfl
@[simp] theorem setLink_settings (s : State) (p : Port) (l : Link) : (s.setLink p l).settings = s.settings := rfl
@[simp] theorem setLink_map (s : State) (p : Port) (l : Link) : (s.setLink p l).map = s.map := rfl
@[simp] theorem setLink_drift (s : State) (p : Port) (l : Link) : (s.setLink p l).drift = s.drift := rfl
@[simp] theorem setLink_claims (s : State) (p : Port) (l : Link) : (s.setLink p l).claims = s.claims := rfl
@[simp] theorem setLink_arbiter (s : State) (p : Port) (l : Link) : (s.setLink p l).arbiter = s.arbiter := rfl
@[simp] theorem setLink_track (s : State) (p : Port) (l : Link) : (s.setLink p l).track = s.track := rfl
@[simp] theorem setLink_dispenser (s : State) (p : Port) (l : Link) : (s.setLink p l).dispenser = s.dispenser := rfl
@[simp] theorem setLink_placement (s : State) (p : Port) (l : Link) : (s.setLink p l).placement = s.placement := rfl
@[simp] theorem setLink_capture (s : State) (p : Port) (l : Link) : (s.setLink p l).capture = s.capture := rfl
@[simp] theorem setLink_report (s : State) (p : Port) (l : Link) : (s.setLink p l).report = s.report := rfl
@[simp] theorem setLink_links (s : State) (p : Port) (l : Link) : (s.setLink p l).links = s.links.set p l := rfl
@[simp] theorem setLink_spoilLatch (s : State) (p : Port) (l : Link) : (s.setLink p l).spoilLatch = s.spoilLatch := rfl

/-! ## setMap -/

@[simp] theorem setMap_pending (s : State) (m : DieMap) : (s.setMap m).pending = s.pending := rfl
@[simp] theorem setMap_choices (s : State) (m : DieMap) : (s.setMap m).choices = s.choices := rfl
@[simp] theorem setMap_supplyLow (s : State) (m : DieMap) : (s.setMap m).supplyLow = s.supplyLow := rfl
@[simp] theorem setMap_resetLow (s : State) (m : DieMap) : (s.setMap m).resetLow = s.resetLow := rfl
@[simp] theorem setMap_mode (s : State) (m : DieMap) : (s.setMap m).mode = s.mode := rfl
@[simp] theorem setMap_lineTime (s : State) (m : DieMap) : (s.setMap m).lineTime = s.lineTime := rfl
@[simp] theorem setMap_reports (s : State) (m : DieMap) : (s.setMap m).reports = s.reports := rfl
@[simp] theorem setMap_headEnabled (s : State) (m : DieMap) : (s.setMap m).headEnabled = s.headEnabled := rfl
@[simp] theorem setMap_settings (s : State) (m : DieMap) : (s.setMap m).settings = s.settings := rfl
@[simp] theorem setMap_map (s : State) (m : DieMap) : (s.setMap m).map = m := rfl
@[simp] theorem setMap_drift (s : State) (m : DieMap) : (s.setMap m).drift = s.drift := rfl
@[simp] theorem setMap_claims (s : State) (m : DieMap) : (s.setMap m).claims = s.claims := rfl
@[simp] theorem setMap_arbiter (s : State) (m : DieMap) : (s.setMap m).arbiter = s.arbiter := rfl
@[simp] theorem setMap_track (s : State) (m : DieMap) : (s.setMap m).track = s.track := rfl
@[simp] theorem setMap_dispenser (s : State) (m : DieMap) : (s.setMap m).dispenser = s.dispenser := rfl
@[simp] theorem setMap_placement (s : State) (m : DieMap) : (s.setMap m).placement = s.placement := rfl
@[simp] theorem setMap_capture (s : State) (m : DieMap) : (s.setMap m).capture = s.capture := rfl
@[simp] theorem setMap_report (s : State) (m : DieMap) : (s.setMap m).report = s.report := rfl
@[simp] theorem setMap_links (s : State) (m : DieMap) : (s.setMap m).links = s.links := rfl
@[simp] theorem setMap_spoilLatch (s : State) (m : DieMap) : (s.setMap m).spoilLatch = s.spoilLatch := rfl

/-! ## zeroDrift -/

@[simp] theorem zeroDrift_pending (s : State) : (s.zeroDrift).pending = s.pending := rfl
@[simp] theorem zeroDrift_choices (s : State) : (s.zeroDrift).choices = s.choices := rfl
@[simp] theorem zeroDrift_supplyLow (s : State) : (s.zeroDrift).supplyLow = s.supplyLow := rfl
@[simp] theorem zeroDrift_resetLow (s : State) : (s.zeroDrift).resetLow = s.resetLow := rfl
@[simp] theorem zeroDrift_mode (s : State) : (s.zeroDrift).mode = s.mode := rfl
@[simp] theorem zeroDrift_lineTime (s : State) : (s.zeroDrift).lineTime = s.lineTime := rfl
@[simp] theorem zeroDrift_reports (s : State) : (s.zeroDrift).reports = s.reports := rfl
@[simp] theorem zeroDrift_headEnabled (s : State) : (s.zeroDrift).headEnabled = s.headEnabled := rfl
@[simp] theorem zeroDrift_settings (s : State) : (s.zeroDrift).settings = s.settings := rfl
@[simp] theorem zeroDrift_map (s : State) : (s.zeroDrift).map = s.map := rfl
@[simp] theorem zeroDrift_drift (s : State) : (s.zeroDrift).drift = ⟨0, 0⟩ := rfl
@[simp] theorem zeroDrift_claims (s : State) : (s.zeroDrift).claims = s.claims := rfl
@[simp] theorem zeroDrift_arbiter (s : State) : (s.zeroDrift).arbiter = s.arbiter := rfl
@[simp] theorem zeroDrift_track (s : State) : (s.zeroDrift).track = s.track := rfl
@[simp] theorem zeroDrift_dispenser (s : State) : (s.zeroDrift).dispenser = s.dispenser := rfl
@[simp] theorem zeroDrift_placement (s : State) : (s.zeroDrift).placement = s.placement := rfl
@[simp] theorem zeroDrift_capture (s : State) : (s.zeroDrift).capture = s.capture := rfl
@[simp] theorem zeroDrift_report (s : State) : (s.zeroDrift).report = s.report := rfl
@[simp] theorem zeroDrift_links (s : State) : (s.zeroDrift).links = s.links := rfl
@[simp] theorem zeroDrift_spoilLatch (s : State) : (s.zeroDrift).spoilLatch = s.spoilLatch := rfl

/-! ## setClaims -/

@[simp] theorem setClaims_pending (s : State) (h : Head) (l : List Claim) : (s.setClaims h l).pending = s.pending := rfl
@[simp] theorem setClaims_choices (s : State) (h : Head) (l : List Claim) : (s.setClaims h l).choices = s.choices := rfl
@[simp] theorem setClaims_supplyLow (s : State) (h : Head) (l : List Claim) : (s.setClaims h l).supplyLow = s.supplyLow := rfl
@[simp] theorem setClaims_resetLow (s : State) (h : Head) (l : List Claim) : (s.setClaims h l).resetLow = s.resetLow := rfl
@[simp] theorem setClaims_mode (s : State) (h : Head) (l : List Claim) : (s.setClaims h l).mode = s.mode := rfl
@[simp] theorem setClaims_lineTime (s : State) (h : Head) (l : List Claim) : (s.setClaims h l).lineTime = s.lineTime := rfl
@[simp] theorem setClaims_reports (s : State) (h : Head) (l : List Claim) : (s.setClaims h l).reports = s.reports := rfl
@[simp] theorem setClaims_headEnabled (s : State) (h : Head) (l : List Claim) : (s.setClaims h l).headEnabled = s.headEnabled := rfl
@[simp] theorem setClaims_settings (s : State) (h : Head) (l : List Claim) : (s.setClaims h l).settings = s.settings := rfl
@[simp] theorem setClaims_map (s : State) (h : Head) (l : List Claim) : (s.setClaims h l).map = s.map := rfl
@[simp] theorem setClaims_drift (s : State) (h : Head) (l : List Claim) : (s.setClaims h l).drift = s.drift := rfl
@[simp] theorem setClaims_claims (s : State) (h : Head) (l : List Claim) : (s.setClaims h l).claims = s.claims.set h l := rfl
@[simp] theorem setClaims_arbiter (s : State) (h : Head) (l : List Claim) : (s.setClaims h l).arbiter = s.arbiter := rfl
@[simp] theorem setClaims_track (s : State) (h : Head) (l : List Claim) : (s.setClaims h l).track = s.track := rfl
@[simp] theorem setClaims_dispenser (s : State) (h : Head) (l : List Claim) : (s.setClaims h l).dispenser = s.dispenser := rfl
@[simp] theorem setClaims_placement (s : State) (h : Head) (l : List Claim) : (s.setClaims h l).placement = s.placement := rfl
@[simp] theorem setClaims_capture (s : State) (h : Head) (l : List Claim) : (s.setClaims h l).capture = s.capture := rfl
@[simp] theorem setClaims_report (s : State) (h : Head) (l : List Claim) : (s.setClaims h l).report = s.report := rfl
@[simp] theorem setClaims_links (s : State) (h : Head) (l : List Claim) : (s.setClaims h l).links = s.links := rfl
@[simp] theorem setClaims_spoilLatch (s : State) (h : Head) (l : List Claim) : (s.setClaims h l).spoilLatch = s.spoilLatch := rfl

/-! ## setArbiter -/

@[simp] theorem setArbiter_pending (s : State) (a : Arbiter) : (s.setArbiter a).pending = s.pending := rfl
@[simp] theorem setArbiter_choices (s : State) (a : Arbiter) : (s.setArbiter a).choices = s.choices := rfl
@[simp] theorem setArbiter_supplyLow (s : State) (a : Arbiter) : (s.setArbiter a).supplyLow = s.supplyLow := rfl
@[simp] theorem setArbiter_resetLow (s : State) (a : Arbiter) : (s.setArbiter a).resetLow = s.resetLow := rfl
@[simp] theorem setArbiter_mode (s : State) (a : Arbiter) : (s.setArbiter a).mode = s.mode := rfl
@[simp] theorem setArbiter_lineTime (s : State) (a : Arbiter) : (s.setArbiter a).lineTime = s.lineTime := rfl
@[simp] theorem setArbiter_reports (s : State) (a : Arbiter) : (s.setArbiter a).reports = s.reports := rfl
@[simp] theorem setArbiter_headEnabled (s : State) (a : Arbiter) : (s.setArbiter a).headEnabled = s.headEnabled := rfl
@[simp] theorem setArbiter_settings (s : State) (a : Arbiter) : (s.setArbiter a).settings = s.settings := rfl
@[simp] theorem setArbiter_map (s : State) (a : Arbiter) : (s.setArbiter a).map = s.map := rfl
@[simp] theorem setArbiter_drift (s : State) (a : Arbiter) : (s.setArbiter a).drift = s.drift := rfl
@[simp] theorem setArbiter_claims (s : State) (a : Arbiter) : (s.setArbiter a).claims = s.claims := rfl
@[simp] theorem setArbiter_arbiter (s : State) (a : Arbiter) : (s.setArbiter a).arbiter = a := rfl
@[simp] theorem setArbiter_track (s : State) (a : Arbiter) : (s.setArbiter a).track = s.track := rfl
@[simp] theorem setArbiter_dispenser (s : State) (a : Arbiter) : (s.setArbiter a).dispenser = s.dispenser := rfl
@[simp] theorem setArbiter_placement (s : State) (a : Arbiter) : (s.setArbiter a).placement = s.placement := rfl
@[simp] theorem setArbiter_capture (s : State) (a : Arbiter) : (s.setArbiter a).capture = s.capture := rfl
@[simp] theorem setArbiter_report (s : State) (a : Arbiter) : (s.setArbiter a).report = s.report := rfl
@[simp] theorem setArbiter_links (s : State) (a : Arbiter) : (s.setArbiter a).links = s.links := rfl
@[simp] theorem setArbiter_spoilLatch (s : State) (a : Arbiter) : (s.setArbiter a).spoilLatch = s.spoilLatch := rfl

/-! ## setTrack -/

@[simp] theorem setTrack_pending (s : State) (t : Track) : (s.setTrack t).pending = s.pending := rfl
@[simp] theorem setTrack_choices (s : State) (t : Track) : (s.setTrack t).choices = s.choices := rfl
@[simp] theorem setTrack_supplyLow (s : State) (t : Track) : (s.setTrack t).supplyLow = s.supplyLow := rfl
@[simp] theorem setTrack_resetLow (s : State) (t : Track) : (s.setTrack t).resetLow = s.resetLow := rfl
@[simp] theorem setTrack_mode (s : State) (t : Track) : (s.setTrack t).mode = s.mode := rfl
@[simp] theorem setTrack_lineTime (s : State) (t : Track) : (s.setTrack t).lineTime = s.lineTime := rfl
@[simp] theorem setTrack_reports (s : State) (t : Track) : (s.setTrack t).reports = s.reports := rfl
@[simp] theorem setTrack_headEnabled (s : State) (t : Track) : (s.setTrack t).headEnabled = s.headEnabled := rfl
@[simp] theorem setTrack_settings (s : State) (t : Track) : (s.setTrack t).settings = s.settings := rfl
@[simp] theorem setTrack_map (s : State) (t : Track) : (s.setTrack t).map = s.map := rfl
@[simp] theorem setTrack_drift (s : State) (t : Track) : (s.setTrack t).drift = s.drift := rfl
@[simp] theorem setTrack_claims (s : State) (t : Track) : (s.setTrack t).claims = s.claims := rfl
@[simp] theorem setTrack_arbiter (s : State) (t : Track) : (s.setTrack t).arbiter = s.arbiter := rfl
@[simp] theorem setTrack_track (s : State) (t : Track) : (s.setTrack t).track = t := rfl
@[simp] theorem setTrack_dispenser (s : State) (t : Track) : (s.setTrack t).dispenser = s.dispenser := rfl
@[simp] theorem setTrack_placement (s : State) (t : Track) : (s.setTrack t).placement = s.placement := rfl
@[simp] theorem setTrack_capture (s : State) (t : Track) : (s.setTrack t).capture = s.capture := rfl
@[simp] theorem setTrack_report (s : State) (t : Track) : (s.setTrack t).report = s.report := rfl
@[simp] theorem setTrack_links (s : State) (t : Track) : (s.setTrack t).links = s.links := rfl
@[simp] theorem setTrack_spoilLatch (s : State) (t : Track) : (s.setTrack t).spoilLatch = s.spoilLatch := rfl

/-! ## setDispenser -/

@[simp] theorem setDispenser_pending (s : State) (d : Dispenser) : (s.setDispenser d).pending = s.pending := rfl
@[simp] theorem setDispenser_choices (s : State) (d : Dispenser) : (s.setDispenser d).choices = s.choices := rfl
@[simp] theorem setDispenser_supplyLow (s : State) (d : Dispenser) : (s.setDispenser d).supplyLow = s.supplyLow := rfl
@[simp] theorem setDispenser_resetLow (s : State) (d : Dispenser) : (s.setDispenser d).resetLow = s.resetLow := rfl
@[simp] theorem setDispenser_mode (s : State) (d : Dispenser) : (s.setDispenser d).mode = s.mode := rfl
@[simp] theorem setDispenser_lineTime (s : State) (d : Dispenser) : (s.setDispenser d).lineTime = s.lineTime := rfl
@[simp] theorem setDispenser_reports (s : State) (d : Dispenser) : (s.setDispenser d).reports = s.reports := rfl
@[simp] theorem setDispenser_headEnabled (s : State) (d : Dispenser) : (s.setDispenser d).headEnabled = s.headEnabled := rfl
@[simp] theorem setDispenser_settings (s : State) (d : Dispenser) : (s.setDispenser d).settings = s.settings := rfl
@[simp] theorem setDispenser_map (s : State) (d : Dispenser) : (s.setDispenser d).map = s.map := rfl
@[simp] theorem setDispenser_drift (s : State) (d : Dispenser) : (s.setDispenser d).drift = s.drift := rfl
@[simp] theorem setDispenser_claims (s : State) (d : Dispenser) : (s.setDispenser d).claims = s.claims := rfl
@[simp] theorem setDispenser_arbiter (s : State) (d : Dispenser) : (s.setDispenser d).arbiter = s.arbiter := rfl
@[simp] theorem setDispenser_track (s : State) (d : Dispenser) : (s.setDispenser d).track = s.track := rfl
@[simp] theorem setDispenser_dispenser (s : State) (d : Dispenser) : (s.setDispenser d).dispenser = d := rfl
@[simp] theorem setDispenser_placement (s : State) (d : Dispenser) : (s.setDispenser d).placement = s.placement := rfl
@[simp] theorem setDispenser_capture (s : State) (d : Dispenser) : (s.setDispenser d).capture = s.capture := rfl
@[simp] theorem setDispenser_report (s : State) (d : Dispenser) : (s.setDispenser d).report = s.report := rfl
@[simp] theorem setDispenser_links (s : State) (d : Dispenser) : (s.setDispenser d).links = s.links := rfl
@[simp] theorem setDispenser_spoilLatch (s : State) (d : Dispenser) : (s.setDispenser d).spoilLatch = s.spoilLatch := rfl

/-! ## setPlacement -/

@[simp] theorem setPlacement_pending (s : State) (p : Placement) : (s.setPlacement p).pending = s.pending := rfl
@[simp] theorem setPlacement_choices (s : State) (p : Placement) : (s.setPlacement p).choices = s.choices := rfl
@[simp] theorem setPlacement_supplyLow (s : State) (p : Placement) : (s.setPlacement p).supplyLow = s.supplyLow := rfl
@[simp] theorem setPlacement_resetLow (s : State) (p : Placement) : (s.setPlacement p).resetLow = s.resetLow := rfl
@[simp] theorem setPlacement_mode (s : State) (p : Placement) : (s.setPlacement p).mode = s.mode := rfl
@[simp] theorem setPlacement_lineTime (s : State) (p : Placement) : (s.setPlacement p).lineTime = s.lineTime := rfl
@[simp] theorem setPlacement_reports (s : State) (p : Placement) : (s.setPlacement p).reports = s.reports := rfl
@[simp] theorem setPlacement_headEnabled (s : State) (p : Placement) : (s.setPlacement p).headEnabled = s.headEnabled := rfl
@[simp] theorem setPlacement_settings (s : State) (p : Placement) : (s.setPlacement p).settings = s.settings := rfl
@[simp] theorem setPlacement_map (s : State) (p : Placement) : (s.setPlacement p).map = s.map := rfl
@[simp] theorem setPlacement_drift (s : State) (p : Placement) : (s.setPlacement p).drift = s.drift := rfl
@[simp] theorem setPlacement_claims (s : State) (p : Placement) : (s.setPlacement p).claims = s.claims := rfl
@[simp] theorem setPlacement_arbiter (s : State) (p : Placement) : (s.setPlacement p).arbiter = s.arbiter := rfl
@[simp] theorem setPlacement_track (s : State) (p : Placement) : (s.setPlacement p).track = s.track := rfl
@[simp] theorem setPlacement_dispenser (s : State) (p : Placement) : (s.setPlacement p).dispenser = s.dispenser := rfl
@[simp] theorem setPlacement_placement (s : State) (p : Placement) : (s.setPlacement p).placement = p := rfl
@[simp] theorem setPlacement_capture (s : State) (p : Placement) : (s.setPlacement p).capture = s.capture := rfl
@[simp] theorem setPlacement_report (s : State) (p : Placement) : (s.setPlacement p).report = s.report := rfl
@[simp] theorem setPlacement_links (s : State) (p : Placement) : (s.setPlacement p).links = s.links := rfl
@[simp] theorem setPlacement_spoilLatch (s : State) (p : Placement) : (s.setPlacement p).spoilLatch = s.spoilLatch := rfl

/-! ## setSettings -/

@[simp] theorem setSettings_pending (s : State) (t : Settings) : (s.setSettings t).pending = s.pending := rfl
@[simp] theorem setSettings_choices (s : State) (t : Settings) : (s.setSettings t).choices = s.choices := rfl
@[simp] theorem setSettings_supplyLow (s : State) (t : Settings) : (s.setSettings t).supplyLow = s.supplyLow := rfl
@[simp] theorem setSettings_resetLow (s : State) (t : Settings) : (s.setSettings t).resetLow = s.resetLow := rfl
@[simp] theorem setSettings_mode (s : State) (t : Settings) : (s.setSettings t).mode = s.mode := rfl
@[simp] theorem setSettings_lineTime (s : State) (t : Settings) : (s.setSettings t).lineTime = s.lineTime := rfl
@[simp] theorem setSettings_reports (s : State) (t : Settings) : (s.setSettings t).reports = s.reports := rfl
@[simp] theorem setSettings_headEnabled (s : State) (t : Settings) : (s.setSettings t).headEnabled = s.headEnabled := rfl
@[simp] theorem setSettings_settings (s : State) (t : Settings) : (s.setSettings t).settings = t := rfl
@[simp] theorem setSettings_map (s : State) (t : Settings) : (s.setSettings t).map = s.map := rfl
@[simp] theorem setSettings_drift (s : State) (t : Settings) : (s.setSettings t).drift = s.drift := rfl
@[simp] theorem setSettings_claims (s : State) (t : Settings) : (s.setSettings t).claims = s.claims := rfl
@[simp] theorem setSettings_arbiter (s : State) (t : Settings) : (s.setSettings t).arbiter = s.arbiter := rfl
@[simp] theorem setSettings_track (s : State) (t : Settings) : (s.setSettings t).track = s.track := rfl
@[simp] theorem setSettings_dispenser (s : State) (t : Settings) : (s.setSettings t).dispenser = s.dispenser := rfl
@[simp] theorem setSettings_placement (s : State) (t : Settings) : (s.setSettings t).placement = s.placement := rfl
@[simp] theorem setSettings_capture (s : State) (t : Settings) : (s.setSettings t).capture = s.capture := rfl
@[simp] theorem setSettings_report (s : State) (t : Settings) : (s.setSettings t).report = s.report := rfl
@[simp] theorem setSettings_links (s : State) (t : Settings) : (s.setSettings t).links = s.links := rfl
@[simp] theorem setSettings_spoilLatch (s : State) (t : Settings) : (s.setSettings t).spoilLatch = s.spoilLatch := rfl

/-! ## setReport -/

@[simp] theorem setReport_pending (s : State) (r : ReportUnit) : (s.setReport r).pending = s.pending := rfl
@[simp] theorem setReport_choices (s : State) (r : ReportUnit) : (s.setReport r).choices = s.choices := rfl
@[simp] theorem setReport_supplyLow (s : State) (r : ReportUnit) : (s.setReport r).supplyLow = s.supplyLow := rfl
@[simp] theorem setReport_resetLow (s : State) (r : ReportUnit) : (s.setReport r).resetLow = s.resetLow := rfl
@[simp] theorem setReport_mode (s : State) (r : ReportUnit) : (s.setReport r).mode = s.mode := rfl
@[simp] theorem setReport_lineTime (s : State) (r : ReportUnit) : (s.setReport r).lineTime = s.lineTime := rfl
@[simp] theorem setReport_reports (s : State) (r : ReportUnit) : (s.setReport r).reports = s.reports := rfl
@[simp] theorem setReport_headEnabled (s : State) (r : ReportUnit) : (s.setReport r).headEnabled = s.headEnabled := rfl
@[simp] theorem setReport_settings (s : State) (r : ReportUnit) : (s.setReport r).settings = s.settings := rfl
@[simp] theorem setReport_map (s : State) (r : ReportUnit) : (s.setReport r).map = s.map := rfl
@[simp] theorem setReport_drift (s : State) (r : ReportUnit) : (s.setReport r).drift = s.drift := rfl
@[simp] theorem setReport_claims (s : State) (r : ReportUnit) : (s.setReport r).claims = s.claims := rfl
@[simp] theorem setReport_arbiter (s : State) (r : ReportUnit) : (s.setReport r).arbiter = s.arbiter := rfl
@[simp] theorem setReport_track (s : State) (r : ReportUnit) : (s.setReport r).track = s.track := rfl
@[simp] theorem setReport_dispenser (s : State) (r : ReportUnit) : (s.setReport r).dispenser = s.dispenser := rfl
@[simp] theorem setReport_placement (s : State) (r : ReportUnit) : (s.setReport r).placement = s.placement := rfl
@[simp] theorem setReport_capture (s : State) (r : ReportUnit) : (s.setReport r).capture = s.capture := rfl
@[simp] theorem setReport_report (s : State) (r : ReportUnit) : (s.setReport r).report = r := rfl
@[simp] theorem setReport_links (s : State) (r : ReportUnit) : (s.setReport r).links = s.links := rfl
@[simp] theorem setReport_spoilLatch (s : State) (r : ReportUnit) : (s.setReport r).spoilLatch = s.spoilLatch := rfl

/-! ## setCapture -/

@[simp] theorem setCapture_pending (s : State) (i : CaptureInput) (c : CaptureLine) : (s.setCapture i c).pending = s.pending := rfl
@[simp] theorem setCapture_choices (s : State) (i : CaptureInput) (c : CaptureLine) : (s.setCapture i c).choices = s.choices := rfl
@[simp] theorem setCapture_supplyLow (s : State) (i : CaptureInput) (c : CaptureLine) : (s.setCapture i c).supplyLow = s.supplyLow := rfl
@[simp] theorem setCapture_resetLow (s : State) (i : CaptureInput) (c : CaptureLine) : (s.setCapture i c).resetLow = s.resetLow := rfl
@[simp] theorem setCapture_mode (s : State) (i : CaptureInput) (c : CaptureLine) : (s.setCapture i c).mode = s.mode := rfl
@[simp] theorem setCapture_lineTime (s : State) (i : CaptureInput) (c : CaptureLine) : (s.setCapture i c).lineTime = s.lineTime := rfl
@[simp] theorem setCapture_reports (s : State) (i : CaptureInput) (c : CaptureLine) : (s.setCapture i c).reports = s.reports := rfl
@[simp] theorem setCapture_headEnabled (s : State) (i : CaptureInput) (c : CaptureLine) : (s.setCapture i c).headEnabled = s.headEnabled := rfl
@[simp] theorem setCapture_settings (s : State) (i : CaptureInput) (c : CaptureLine) : (s.setCapture i c).settings = s.settings := rfl
@[simp] theorem setCapture_map (s : State) (i : CaptureInput) (c : CaptureLine) : (s.setCapture i c).map = s.map := rfl
@[simp] theorem setCapture_drift (s : State) (i : CaptureInput) (c : CaptureLine) : (s.setCapture i c).drift = s.drift := rfl
@[simp] theorem setCapture_claims (s : State) (i : CaptureInput) (c : CaptureLine) : (s.setCapture i c).claims = s.claims := rfl
@[simp] theorem setCapture_arbiter (s : State) (i : CaptureInput) (c : CaptureLine) : (s.setCapture i c).arbiter = s.arbiter := rfl
@[simp] theorem setCapture_track (s : State) (i : CaptureInput) (c : CaptureLine) : (s.setCapture i c).track = s.track := rfl
@[simp] theorem setCapture_dispenser (s : State) (i : CaptureInput) (c : CaptureLine) : (s.setCapture i c).dispenser = s.dispenser := rfl
@[simp] theorem setCapture_placement (s : State) (i : CaptureInput) (c : CaptureLine) : (s.setCapture i c).placement = s.placement := rfl
@[simp] theorem setCapture_capture (s : State) (i : CaptureInput) (c : CaptureLine) : (s.setCapture i c).capture = s.capture.set i c := rfl
@[simp] theorem setCapture_report (s : State) (i : CaptureInput) (c : CaptureLine) : (s.setCapture i c).report = s.report := rfl
@[simp] theorem setCapture_links (s : State) (i : CaptureInput) (c : CaptureLine) : (s.setCapture i c).links = s.links := rfl
@[simp] theorem setCapture_spoilLatch (s : State) (i : CaptureInput) (c : CaptureLine) : (s.setCapture i c).spoilLatch = s.spoilLatch := rfl

/-! ## setEnabled -/

@[simp] theorem setEnabled_pending (s : State) (h : Head) (on : Bool) : (s.setEnabled h on).pending = s.pending := rfl
@[simp] theorem setEnabled_choices (s : State) (h : Head) (on : Bool) : (s.setEnabled h on).choices = s.choices := rfl
@[simp] theorem setEnabled_supplyLow (s : State) (h : Head) (on : Bool) : (s.setEnabled h on).supplyLow = s.supplyLow := rfl
@[simp] theorem setEnabled_resetLow (s : State) (h : Head) (on : Bool) : (s.setEnabled h on).resetLow = s.resetLow := rfl
@[simp] theorem setEnabled_mode (s : State) (h : Head) (on : Bool) : (s.setEnabled h on).mode = s.mode := rfl
@[simp] theorem setEnabled_lineTime (s : State) (h : Head) (on : Bool) : (s.setEnabled h on).lineTime = s.lineTime := rfl
@[simp] theorem setEnabled_reports (s : State) (h : Head) (on : Bool) : (s.setEnabled h on).reports = s.reports := rfl
@[simp] theorem setEnabled_headEnabled (s : State) (h : Head) (on : Bool) : (s.setEnabled h on).headEnabled = s.headEnabled.set h on := rfl
@[simp] theorem setEnabled_settings (s : State) (h : Head) (on : Bool) : (s.setEnabled h on).settings = s.settings := rfl
@[simp] theorem setEnabled_map (s : State) (h : Head) (on : Bool) : (s.setEnabled h on).map = s.map := rfl
@[simp] theorem setEnabled_drift (s : State) (h : Head) (on : Bool) : (s.setEnabled h on).drift = s.drift := rfl
@[simp] theorem setEnabled_claims (s : State) (h : Head) (on : Bool) : (s.setEnabled h on).claims = s.claims := rfl
@[simp] theorem setEnabled_arbiter (s : State) (h : Head) (on : Bool) : (s.setEnabled h on).arbiter = s.arbiter := rfl
@[simp] theorem setEnabled_track (s : State) (h : Head) (on : Bool) : (s.setEnabled h on).track = s.track := rfl
@[simp] theorem setEnabled_dispenser (s : State) (h : Head) (on : Bool) : (s.setEnabled h on).dispenser = s.dispenser := rfl
@[simp] theorem setEnabled_placement (s : State) (h : Head) (on : Bool) : (s.setEnabled h on).placement = s.placement := rfl
@[simp] theorem setEnabled_capture (s : State) (h : Head) (on : Bool) : (s.setEnabled h on).capture = s.capture := rfl
@[simp] theorem setEnabled_report (s : State) (h : Head) (on : Bool) : (s.setEnabled h on).report = s.report := rfl
@[simp] theorem setEnabled_links (s : State) (h : Head) (on : Bool) : (s.setEnabled h on).links = s.links := rfl
@[simp] theorem setEnabled_spoilLatch (s : State) (h : Head) (on : Bool) : (s.setEnabled h on).spoilLatch = s.spoilLatch := rfl

/-! ## setSpoil -/

@[simp] theorem setSpoil_pending (s : State) : (s.setSpoil).pending = s.pending := rfl
@[simp] theorem setSpoil_choices (s : State) : (s.setSpoil).choices = s.choices := rfl
@[simp] theorem setSpoil_supplyLow (s : State) : (s.setSpoil).supplyLow = s.supplyLow := rfl
@[simp] theorem setSpoil_resetLow (s : State) : (s.setSpoil).resetLow = s.resetLow := rfl
@[simp] theorem setSpoil_mode (s : State) : (s.setSpoil).mode = s.mode := rfl
@[simp] theorem setSpoil_lineTime (s : State) : (s.setSpoil).lineTime = s.lineTime := rfl
@[simp] theorem setSpoil_reports (s : State) : (s.setSpoil).reports = s.reports := rfl
@[simp] theorem setSpoil_headEnabled (s : State) : (s.setSpoil).headEnabled = s.headEnabled := rfl
@[simp] theorem setSpoil_settings (s : State) : (s.setSpoil).settings = s.settings := rfl
@[simp] theorem setSpoil_map (s : State) : (s.setSpoil).map = s.map := rfl
@[simp] theorem setSpoil_drift (s : State) : (s.setSpoil).drift = s.drift := rfl
@[simp] theorem setSpoil_claims (s : State) : (s.setSpoil).claims = s.claims := rfl
@[simp] theorem setSpoil_arbiter (s : State) : (s.setSpoil).arbiter = s.arbiter := rfl
@[simp] theorem setSpoil_track (s : State) : (s.setSpoil).track = s.track := rfl
@[simp] theorem setSpoil_dispenser (s : State) : (s.setSpoil).dispenser = s.dispenser := rfl
@[simp] theorem setSpoil_placement (s : State) : (s.setSpoil).placement = s.placement := rfl
@[simp] theorem setSpoil_capture (s : State) : (s.setSpoil).capture = s.capture := rfl
@[simp] theorem setSpoil_report (s : State) : (s.setSpoil).report = s.report := rfl
@[simp] theorem setSpoil_links (s : State) : (s.setSpoil).links = s.links := rfl
@[simp] theorem setSpoil_spoilLatch (s : State) : (s.setSpoil).spoilLatch = true := rfl

/-! ## choose -/

@[simp] theorem choose_pending (s : State) : (s.choose).pending = s.pending := rfl
@[simp] theorem choose_choices (s : State) : (s.choose).choices = s.choices + 1 := rfl
@[simp] theorem choose_supplyLow (s : State) : (s.choose).supplyLow = s.supplyLow := rfl
@[simp] theorem choose_resetLow (s : State) : (s.choose).resetLow = s.resetLow := rfl
@[simp] theorem choose_mode (s : State) : (s.choose).mode = s.mode := rfl
@[simp] theorem choose_lineTime (s : State) : (s.choose).lineTime = s.lineTime := rfl
@[simp] theorem choose_reports (s : State) : (s.choose).reports = s.reports := rfl
@[simp] theorem choose_headEnabled (s : State) : (s.choose).headEnabled = s.headEnabled := rfl
@[simp] theorem choose_settings (s : State) : (s.choose).settings = s.settings := rfl
@[simp] theorem choose_map (s : State) : (s.choose).map = s.map := rfl
@[simp] theorem choose_drift (s : State) : (s.choose).drift = s.drift := rfl
@[simp] theorem choose_claims (s : State) : (s.choose).claims = s.claims := rfl
@[simp] theorem choose_arbiter (s : State) : (s.choose).arbiter = s.arbiter := rfl
@[simp] theorem choose_track (s : State) : (s.choose).track = s.track := rfl
@[simp] theorem choose_dispenser (s : State) : (s.choose).dispenser = s.dispenser := rfl
@[simp] theorem choose_placement (s : State) : (s.choose).placement = s.placement := rfl
@[simp] theorem choose_capture (s : State) : (s.choose).capture = s.capture := rfl
@[simp] theorem choose_report (s : State) : (s.choose).report = s.report := rfl
@[simp] theorem choose_links (s : State) : (s.choose).links = s.links := rfl
@[simp] theorem choose_spoilLatch (s : State) : (s.choose).spoilLatch = s.spoilLatch := rfl

/-! ## tick -/

@[simp] theorem tick_pending (s : State) : (s.tick).pending = s.pending := rfl
@[simp] theorem tick_choices (s : State) : (s.tick).choices = s.choices := rfl
@[simp] theorem tick_supplyLow (s : State) : (s.tick).supplyLow = s.supplyLow := rfl
@[simp] theorem tick_resetLow (s : State) : (s.tick).resetLow = s.resetLow := rfl
@[simp] theorem tick_mode (s : State) : (s.tick).mode = s.mode := rfl
@[simp] theorem tick_lineTime (s : State) : (s.tick).lineTime = s.lineTime + 1 := rfl
@[simp] theorem tick_reports (s : State) : (s.tick).reports = s.reports := rfl
@[simp] theorem tick_headEnabled (s : State) : (s.tick).headEnabled = s.headEnabled := rfl
@[simp] theorem tick_settings (s : State) : (s.tick).settings = s.settings := rfl
@[simp] theorem tick_map (s : State) : (s.tick).map = s.map := rfl
@[simp] theorem tick_drift (s : State) : (s.tick).drift = s.drift := rfl
@[simp] theorem tick_claims (s : State) : (s.tick).claims = s.claims := rfl
@[simp] theorem tick_arbiter (s : State) : (s.tick).arbiter = s.arbiter := rfl
@[simp] theorem tick_track (s : State) : (s.tick).track = s.track := rfl
@[simp] theorem tick_dispenser (s : State) : (s.tick).dispenser = s.dispenser := rfl
@[simp] theorem tick_placement (s : State) : (s.tick).placement = s.placement := rfl
@[simp] theorem tick_capture (s : State) : (s.tick).capture = s.capture := rfl
@[simp] theorem tick_report (s : State) : (s.tick).report = s.report := rfl
@[simp] theorem tick_links (s : State) : (s.tick).links = s.links := rfl
@[simp] theorem tick_spoilLatch (s : State) : (s.tick).spoilLatch = s.spoilLatch := rfl

/-! ## withPending -/

@[simp] theorem withPending_pending (s : State) (cs : List Instr) : (s.withPending cs).pending = cs := rfl
@[simp] theorem withPending_choices (s : State) (cs : List Instr) : (s.withPending cs).choices = s.choices := rfl
@[simp] theorem withPending_supplyLow (s : State) (cs : List Instr) : (s.withPending cs).supplyLow = s.supplyLow := rfl
@[simp] theorem withPending_resetLow (s : State) (cs : List Instr) : (s.withPending cs).resetLow = s.resetLow := rfl
@[simp] theorem withPending_mode (s : State) (cs : List Instr) : (s.withPending cs).mode = s.mode := rfl
@[simp] theorem withPending_lineTime (s : State) (cs : List Instr) : (s.withPending cs).lineTime = s.lineTime := rfl
@[simp] theorem withPending_reports (s : State) (cs : List Instr) : (s.withPending cs).reports = s.reports := rfl
@[simp] theorem withPending_headEnabled (s : State) (cs : List Instr) : (s.withPending cs).headEnabled = s.headEnabled := rfl
@[simp] theorem withPending_settings (s : State) (cs : List Instr) : (s.withPending cs).settings = s.settings := rfl
@[simp] theorem withPending_map (s : State) (cs : List Instr) : (s.withPending cs).map = s.map := rfl
@[simp] theorem withPending_drift (s : State) (cs : List Instr) : (s.withPending cs).drift = s.drift := rfl
@[simp] theorem withPending_claims (s : State) (cs : List Instr) : (s.withPending cs).claims = s.claims := rfl
@[simp] theorem withPending_arbiter (s : State) (cs : List Instr) : (s.withPending cs).arbiter = s.arbiter := rfl
@[simp] theorem withPending_track (s : State) (cs : List Instr) : (s.withPending cs).track = s.track := rfl
@[simp] theorem withPending_dispenser (s : State) (cs : List Instr) : (s.withPending cs).dispenser = s.dispenser := rfl
@[simp] theorem withPending_placement (s : State) (cs : List Instr) : (s.withPending cs).placement = s.placement := rfl
@[simp] theorem withPending_capture (s : State) (cs : List Instr) : (s.withPending cs).capture = s.capture := rfl
@[simp] theorem withPending_report (s : State) (cs : List Instr) : (s.withPending cs).report = s.report := rfl
@[simp] theorem withPending_links (s : State) (cs : List Instr) : (s.withPending cs).links = s.links := rfl
@[simp] theorem withPending_spoilLatch (s : State) (cs : List Instr) : (s.withPending cs).spoilLatch = s.spoilLatch := rfl

/-! ## reply -/

@[simp] theorem reply_pending (s : State) (p : Port) (tag : Byte) (code : ReplyCode) (ws : List Word) : (s.reply p tag code ws).pending = s.pending := rfl
@[simp] theorem reply_choices (s : State) (p : Port) (tag : Byte) (code : ReplyCode) (ws : List Word) : (s.reply p tag code ws).choices = s.choices := rfl
@[simp] theorem reply_supplyLow (s : State) (p : Port) (tag : Byte) (code : ReplyCode) (ws : List Word) : (s.reply p tag code ws).supplyLow = s.supplyLow := rfl
@[simp] theorem reply_resetLow (s : State) (p : Port) (tag : Byte) (code : ReplyCode) (ws : List Word) : (s.reply p tag code ws).resetLow = s.resetLow := rfl
@[simp] theorem reply_mode (s : State) (p : Port) (tag : Byte) (code : ReplyCode) (ws : List Word) : (s.reply p tag code ws).mode = s.mode := rfl
@[simp] theorem reply_lineTime (s : State) (p : Port) (tag : Byte) (code : ReplyCode) (ws : List Word) : (s.reply p tag code ws).lineTime = s.lineTime := rfl
@[simp] theorem reply_reports (s : State) (p : Port) (tag : Byte) (code : ReplyCode) (ws : List Word) : (s.reply p tag code ws).reports = s.reports := rfl
@[simp] theorem reply_headEnabled (s : State) (p : Port) (tag : Byte) (code : ReplyCode) (ws : List Word) : (s.reply p tag code ws).headEnabled = s.headEnabled := rfl
@[simp] theorem reply_settings (s : State) (p : Port) (tag : Byte) (code : ReplyCode) (ws : List Word) : (s.reply p tag code ws).settings = s.settings := rfl
@[simp] theorem reply_map (s : State) (p : Port) (tag : Byte) (code : ReplyCode) (ws : List Word) : (s.reply p tag code ws).map = s.map := rfl
@[simp] theorem reply_drift (s : State) (p : Port) (tag : Byte) (code : ReplyCode) (ws : List Word) : (s.reply p tag code ws).drift = s.drift := rfl
@[simp] theorem reply_claims (s : State) (p : Port) (tag : Byte) (code : ReplyCode) (ws : List Word) : (s.reply p tag code ws).claims = s.claims := rfl
@[simp] theorem reply_arbiter (s : State) (p : Port) (tag : Byte) (code : ReplyCode) (ws : List Word) : (s.reply p tag code ws).arbiter = s.arbiter := rfl
@[simp] theorem reply_track (s : State) (p : Port) (tag : Byte) (code : ReplyCode) (ws : List Word) : (s.reply p tag code ws).track = s.track := rfl
@[simp] theorem reply_dispenser (s : State) (p : Port) (tag : Byte) (code : ReplyCode) (ws : List Word) : (s.reply p tag code ws).dispenser = s.dispenser := rfl
@[simp] theorem reply_placement (s : State) (p : Port) (tag : Byte) (code : ReplyCode) (ws : List Word) : (s.reply p tag code ws).placement = s.placement := rfl
@[simp] theorem reply_capture (s : State) (p : Port) (tag : Byte) (code : ReplyCode) (ws : List Word) : (s.reply p tag code ws).capture = s.capture := rfl
@[simp] theorem reply_report (s : State) (p : Port) (tag : Byte) (code : ReplyCode) (ws : List Word) : (s.reply p tag code ws).report = s.report := rfl
@[simp] theorem reply_links (s : State) (p : Port) (tag : Byte) (code : ReplyCode) (ws : List Word) : (s.reply p tag code ws).links = s.links.set p { s.link p with replies := (s.link p).replies ++ [⟨tag, code, ws⟩] } := rfl
@[simp] theorem reply_spoilLatch (s : State) (p : Port) (tag : Byte) (code : ReplyCode) (ws : List Word) : (s.reply p tag code ws).spoilLatch = s.spoilLatch := rfl

/-! ## hold -/

@[simp] theorem hold_pending (s : State) (p : Port) (r : Request) (e : Option Time) : (s.hold p r e).pending = s.pending := rfl
@[simp] theorem hold_choices (s : State) (p : Port) (r : Request) (e : Option Time) : (s.hold p r e).choices = s.choices := rfl
@[simp] theorem hold_supplyLow (s : State) (p : Port) (r : Request) (e : Option Time) : (s.hold p r e).supplyLow = s.supplyLow := rfl
@[simp] theorem hold_resetLow (s : State) (p : Port) (r : Request) (e : Option Time) : (s.hold p r e).resetLow = s.resetLow := rfl
@[simp] theorem hold_mode (s : State) (p : Port) (r : Request) (e : Option Time) : (s.hold p r e).mode = s.mode := rfl
@[simp] theorem hold_lineTime (s : State) (p : Port) (r : Request) (e : Option Time) : (s.hold p r e).lineTime = s.lineTime := rfl
@[simp] theorem hold_reports (s : State) (p : Port) (r : Request) (e : Option Time) : (s.hold p r e).reports = s.reports := rfl
@[simp] theorem hold_headEnabled (s : State) (p : Port) (r : Request) (e : Option Time) : (s.hold p r e).headEnabled = s.headEnabled := rfl
@[simp] theorem hold_settings (s : State) (p : Port) (r : Request) (e : Option Time) : (s.hold p r e).settings = s.settings := rfl
@[simp] theorem hold_map (s : State) (p : Port) (r : Request) (e : Option Time) : (s.hold p r e).map = s.map := rfl
@[simp] theorem hold_drift (s : State) (p : Port) (r : Request) (e : Option Time) : (s.hold p r e).drift = s.drift := rfl
@[simp] theorem hold_claims (s : State) (p : Port) (r : Request) (e : Option Time) : (s.hold p r e).claims = s.claims := rfl
@[simp] theorem hold_arbiter (s : State) (p : Port) (r : Request) (e : Option Time) : (s.hold p r e).arbiter = s.arbiter := rfl
@[simp] theorem hold_track (s : State) (p : Port) (r : Request) (e : Option Time) : (s.hold p r e).track = s.track := rfl
@[simp] theorem hold_dispenser (s : State) (p : Port) (r : Request) (e : Option Time) : (s.hold p r e).dispenser = s.dispenser := rfl
@[simp] theorem hold_placement (s : State) (p : Port) (r : Request) (e : Option Time) : (s.hold p r e).placement = s.placement := rfl
@[simp] theorem hold_capture (s : State) (p : Port) (r : Request) (e : Option Time) : (s.hold p r e).capture = s.capture := rfl
@[simp] theorem hold_report (s : State) (p : Port) (r : Request) (e : Option Time) : (s.hold p r e).report = s.report := rfl
@[simp] theorem hold_links (s : State) (p : Port) (r : Request) (e : Option Time) : (s.hold p r e).links = s.links.set p { s.link p with held := some ⟨r, s.lineTime, e⟩ } := rfl
@[simp] theorem hold_spoilLatch (s : State) (p : Port) (r : Request) (e : Option Time) : (s.hold p r e).spoilLatch = s.spoilLatch := rfl

/-! ## clearFresh -/

@[simp] theorem clearFresh_pending (s : State) (p : Port) : (s.clearFresh p).pending = s.pending := rfl
@[simp] theorem clearFresh_choices (s : State) (p : Port) : (s.clearFresh p).choices = s.choices := rfl
@[simp] theorem clearFresh_supplyLow (s : State) (p : Port) : (s.clearFresh p).supplyLow = s.supplyLow := rfl
@[simp] theorem clearFresh_resetLow (s : State) (p : Port) : (s.clearFresh p).resetLow = s.resetLow := rfl
@[simp] theorem clearFresh_mode (s : State) (p : Port) : (s.clearFresh p).mode = s.mode := rfl
@[simp] theorem clearFresh_lineTime (s : State) (p : Port) : (s.clearFresh p).lineTime = s.lineTime := rfl
@[simp] theorem clearFresh_reports (s : State) (p : Port) : (s.clearFresh p).reports = s.reports := rfl
@[simp] theorem clearFresh_headEnabled (s : State) (p : Port) : (s.clearFresh p).headEnabled = s.headEnabled := rfl
@[simp] theorem clearFresh_settings (s : State) (p : Port) : (s.clearFresh p).settings = s.settings := rfl
@[simp] theorem clearFresh_map (s : State) (p : Port) : (s.clearFresh p).map = s.map := rfl
@[simp] theorem clearFresh_drift (s : State) (p : Port) : (s.clearFresh p).drift = s.drift := rfl
@[simp] theorem clearFresh_claims (s : State) (p : Port) : (s.clearFresh p).claims = s.claims := rfl
@[simp] theorem clearFresh_arbiter (s : State) (p : Port) : (s.clearFresh p).arbiter = s.arbiter := rfl
@[simp] theorem clearFresh_track (s : State) (p : Port) : (s.clearFresh p).track = s.track := rfl
@[simp] theorem clearFresh_dispenser (s : State) (p : Port) : (s.clearFresh p).dispenser = s.dispenser := rfl
@[simp] theorem clearFresh_placement (s : State) (p : Port) : (s.clearFresh p).placement = s.placement := rfl
@[simp] theorem clearFresh_capture (s : State) (p : Port) : (s.clearFresh p).capture = s.capture := rfl
@[simp] theorem clearFresh_report (s : State) (p : Port) : (s.clearFresh p).report = s.report := rfl
@[simp] theorem clearFresh_links (s : State) (p : Port) : (s.clearFresh p).links = s.links.set p { s.link p with fresh := false } := rfl
@[simp] theorem clearFresh_spoilLatch (s : State) (p : Port) : (s.clearFresh p).spoilLatch = s.spoilLatch := rfl

/-! ## dropFrame -/

@[simp] theorem dropFrame_pending (s : State) (p : Port) : (s.dropFrame p).pending = s.pending := rfl
@[simp] theorem dropFrame_choices (s : State) (p : Port) : (s.dropFrame p).choices = s.choices := rfl
@[simp] theorem dropFrame_supplyLow (s : State) (p : Port) : (s.dropFrame p).supplyLow = s.supplyLow := rfl
@[simp] theorem dropFrame_resetLow (s : State) (p : Port) : (s.dropFrame p).resetLow = s.resetLow := rfl
@[simp] theorem dropFrame_mode (s : State) (p : Port) : (s.dropFrame p).mode = s.mode := rfl
@[simp] theorem dropFrame_lineTime (s : State) (p : Port) : (s.dropFrame p).lineTime = s.lineTime := rfl
@[simp] theorem dropFrame_reports (s : State) (p : Port) : (s.dropFrame p).reports = s.reports := rfl
@[simp] theorem dropFrame_headEnabled (s : State) (p : Port) : (s.dropFrame p).headEnabled = s.headEnabled := rfl
@[simp] theorem dropFrame_settings (s : State) (p : Port) : (s.dropFrame p).settings = s.settings := rfl
@[simp] theorem dropFrame_map (s : State) (p : Port) : (s.dropFrame p).map = s.map := rfl
@[simp] theorem dropFrame_drift (s : State) (p : Port) : (s.dropFrame p).drift = s.drift := rfl
@[simp] theorem dropFrame_claims (s : State) (p : Port) : (s.dropFrame p).claims = s.claims := rfl
@[simp] theorem dropFrame_arbiter (s : State) (p : Port) : (s.dropFrame p).arbiter = s.arbiter := rfl
@[simp] theorem dropFrame_track (s : State) (p : Port) : (s.dropFrame p).track = s.track := rfl
@[simp] theorem dropFrame_dispenser (s : State) (p : Port) : (s.dropFrame p).dispenser = s.dispenser := rfl
@[simp] theorem dropFrame_placement (s : State) (p : Port) : (s.dropFrame p).placement = s.placement := rfl
@[simp] theorem dropFrame_capture (s : State) (p : Port) : (s.dropFrame p).capture = s.capture := rfl
@[simp] theorem dropFrame_report (s : State) (p : Port) : (s.dropFrame p).report = s.report := rfl
@[simp] theorem dropFrame_links (s : State) (p : Port) : (s.dropFrame p).links = s.links.set p { s.link p with selectLow := false, frame := none } := rfl
@[simp] theorem dropFrame_spoilLatch (s : State) (p : Port) : (s.dropFrame p).spoilLatch = s.spoilLatch := rfl

/-! ## select -/

@[simp] theorem select_pending (s : State) (p : Port) : (s.select p).pending = s.pending := rfl
@[simp] theorem select_choices (s : State) (p : Port) : (s.select p).choices = s.choices := rfl
@[simp] theorem select_supplyLow (s : State) (p : Port) : (s.select p).supplyLow = s.supplyLow := rfl
@[simp] theorem select_resetLow (s : State) (p : Port) : (s.select p).resetLow = s.resetLow := rfl
@[simp] theorem select_mode (s : State) (p : Port) : (s.select p).mode = s.mode := rfl
@[simp] theorem select_lineTime (s : State) (p : Port) : (s.select p).lineTime = s.lineTime := rfl
@[simp] theorem select_reports (s : State) (p : Port) : (s.select p).reports = s.reports := rfl
@[simp] theorem select_headEnabled (s : State) (p : Port) : (s.select p).headEnabled = s.headEnabled := rfl
@[simp] theorem select_settings (s : State) (p : Port) : (s.select p).settings = s.settings := rfl
@[simp] theorem select_map (s : State) (p : Port) : (s.select p).map = s.map := rfl
@[simp] theorem select_drift (s : State) (p : Port) : (s.select p).drift = s.drift := rfl
@[simp] theorem select_claims (s : State) (p : Port) : (s.select p).claims = s.claims := rfl
@[simp] theorem select_arbiter (s : State) (p : Port) : (s.select p).arbiter = s.arbiter := rfl
@[simp] theorem select_track (s : State) (p : Port) : (s.select p).track = s.track := rfl
@[simp] theorem select_dispenser (s : State) (p : Port) : (s.select p).dispenser = s.dispenser := rfl
@[simp] theorem select_placement (s : State) (p : Port) : (s.select p).placement = s.placement := rfl
@[simp] theorem select_capture (s : State) (p : Port) : (s.select p).capture = s.capture := rfl
@[simp] theorem select_report (s : State) (p : Port) : (s.select p).report = s.report := rfl
@[simp] theorem select_links (s : State) (p : Port) : (s.select p).links = s.links.set p { s.link p with selectLow := true } := rfl
@[simp] theorem select_spoilLatch (s : State) (p : Port) : (s.select p).spoilLatch = s.spoilLatch := rfl

/-! ## framed -/

@[simp] theorem framed_pending (s : State) (p : Port) (r : Request) : (s.framed p r).pending = s.pending := rfl
@[simp] theorem framed_choices (s : State) (p : Port) (r : Request) : (s.framed p r).choices = s.choices := rfl
@[simp] theorem framed_supplyLow (s : State) (p : Port) (r : Request) : (s.framed p r).supplyLow = s.supplyLow := rfl
@[simp] theorem framed_resetLow (s : State) (p : Port) (r : Request) : (s.framed p r).resetLow = s.resetLow := rfl
@[simp] theorem framed_mode (s : State) (p : Port) (r : Request) : (s.framed p r).mode = s.mode := rfl
@[simp] theorem framed_lineTime (s : State) (p : Port) (r : Request) : (s.framed p r).lineTime = s.lineTime := rfl
@[simp] theorem framed_reports (s : State) (p : Port) (r : Request) : (s.framed p r).reports = s.reports := rfl
@[simp] theorem framed_headEnabled (s : State) (p : Port) (r : Request) : (s.framed p r).headEnabled = s.headEnabled := rfl
@[simp] theorem framed_settings (s : State) (p : Port) (r : Request) : (s.framed p r).settings = s.settings := rfl
@[simp] theorem framed_map (s : State) (p : Port) (r : Request) : (s.framed p r).map = s.map := rfl
@[simp] theorem framed_drift (s : State) (p : Port) (r : Request) : (s.framed p r).drift = s.drift := rfl
@[simp] theorem framed_claims (s : State) (p : Port) (r : Request) : (s.framed p r).claims = s.claims := rfl
@[simp] theorem framed_arbiter (s : State) (p : Port) (r : Request) : (s.framed p r).arbiter = s.arbiter := rfl
@[simp] theorem framed_track (s : State) (p : Port) (r : Request) : (s.framed p r).track = s.track := rfl
@[simp] theorem framed_dispenser (s : State) (p : Port) (r : Request) : (s.framed p r).dispenser = s.dispenser := rfl
@[simp] theorem framed_placement (s : State) (p : Port) (r : Request) : (s.framed p r).placement = s.placement := rfl
@[simp] theorem framed_capture (s : State) (p : Port) (r : Request) : (s.framed p r).capture = s.capture := rfl
@[simp] theorem framed_report (s : State) (p : Port) (r : Request) : (s.framed p r).report = s.report := rfl
@[simp] theorem framed_spoilLatch (s : State) (p : Port) (r : Request) : (s.framed p r).spoilLatch = s.spoilLatch := rfl

/-! ## accepted -/

@[simp] theorem accepted_pending (s : State) (p : Port) (r : Request) : (s.accepted p r).pending = s.pending := rfl
@[simp] theorem accepted_choices (s : State) (p : Port) (r : Request) : (s.accepted p r).choices = s.choices := rfl
@[simp] theorem accepted_supplyLow (s : State) (p : Port) (r : Request) : (s.accepted p r).supplyLow = s.supplyLow := rfl
@[simp] theorem accepted_resetLow (s : State) (p : Port) (r : Request) : (s.accepted p r).resetLow = s.resetLow := rfl
@[simp] theorem accepted_mode (s : State) (p : Port) (r : Request) : (s.accepted p r).mode = s.mode := rfl
@[simp] theorem accepted_lineTime (s : State) (p : Port) (r : Request) : (s.accepted p r).lineTime = s.lineTime := rfl
@[simp] theorem accepted_reports (s : State) (p : Port) (r : Request) : (s.accepted p r).reports = s.reports := rfl
@[simp] theorem accepted_headEnabled (s : State) (p : Port) (r : Request) : (s.accepted p r).headEnabled = s.headEnabled := rfl
@[simp] theorem accepted_settings (s : State) (p : Port) (r : Request) : (s.accepted p r).settings = s.settings := rfl
@[simp] theorem accepted_map (s : State) (p : Port) (r : Request) : (s.accepted p r).map = s.map := rfl
@[simp] theorem accepted_drift (s : State) (p : Port) (r : Request) : (s.accepted p r).drift = s.drift := rfl
@[simp] theorem accepted_claims (s : State) (p : Port) (r : Request) : (s.accepted p r).claims = s.claims := rfl
@[simp] theorem accepted_arbiter (s : State) (p : Port) (r : Request) : (s.accepted p r).arbiter = s.arbiter := rfl
@[simp] theorem accepted_track (s : State) (p : Port) (r : Request) : (s.accepted p r).track = s.track := rfl
@[simp] theorem accepted_dispenser (s : State) (p : Port) (r : Request) : (s.accepted p r).dispenser = s.dispenser := rfl
@[simp] theorem accepted_placement (s : State) (p : Port) (r : Request) : (s.accepted p r).placement = s.placement := rfl
@[simp] theorem accepted_capture (s : State) (p : Port) (r : Request) : (s.accepted p r).capture = s.capture := rfl
@[simp] theorem accepted_report (s : State) (p : Port) (r : Request) : (s.accepted p r).report = s.report := rfl
@[simp] theorem accepted_spoilLatch (s : State) (p : Port) (r : Request) : (s.accepted p r).spoilLatch = s.spoilLatch := rfl

/-! ## answered -/

@[simp] theorem answered_pending (s : State) (p : Port) (r : Request) (code : ReplyCode) (ws : List Word) : (s.answered p r code ws).pending = s.pending := rfl
@[simp] theorem answered_choices (s : State) (p : Port) (r : Request) (code : ReplyCode) (ws : List Word) : (s.answered p r code ws).choices = s.choices := rfl
@[simp] theorem answered_supplyLow (s : State) (p : Port) (r : Request) (code : ReplyCode) (ws : List Word) : (s.answered p r code ws).supplyLow = s.supplyLow := rfl
@[simp] theorem answered_resetLow (s : State) (p : Port) (r : Request) (code : ReplyCode) (ws : List Word) : (s.answered p r code ws).resetLow = s.resetLow := rfl
@[simp] theorem answered_mode (s : State) (p : Port) (r : Request) (code : ReplyCode) (ws : List Word) : (s.answered p r code ws).mode = s.mode := rfl
@[simp] theorem answered_lineTime (s : State) (p : Port) (r : Request) (code : ReplyCode) (ws : List Word) : (s.answered p r code ws).lineTime = s.lineTime := rfl
@[simp] theorem answered_reports (s : State) (p : Port) (r : Request) (code : ReplyCode) (ws : List Word) : (s.answered p r code ws).reports = s.reports := rfl
@[simp] theorem answered_headEnabled (s : State) (p : Port) (r : Request) (code : ReplyCode) (ws : List Word) : (s.answered p r code ws).headEnabled = s.headEnabled := rfl
@[simp] theorem answered_settings (s : State) (p : Port) (r : Request) (code : ReplyCode) (ws : List Word) : (s.answered p r code ws).settings = s.settings := rfl
@[simp] theorem answered_map (s : State) (p : Port) (r : Request) (code : ReplyCode) (ws : List Word) : (s.answered p r code ws).map = s.map := rfl
@[simp] theorem answered_drift (s : State) (p : Port) (r : Request) (code : ReplyCode) (ws : List Word) : (s.answered p r code ws).drift = s.drift := rfl
@[simp] theorem answered_claims (s : State) (p : Port) (r : Request) (code : ReplyCode) (ws : List Word) : (s.answered p r code ws).claims = s.claims := rfl
@[simp] theorem answered_arbiter (s : State) (p : Port) (r : Request) (code : ReplyCode) (ws : List Word) : (s.answered p r code ws).arbiter = s.arbiter := rfl
@[simp] theorem answered_track (s : State) (p : Port) (r : Request) (code : ReplyCode) (ws : List Word) : (s.answered p r code ws).track = s.track := rfl
@[simp] theorem answered_dispenser (s : State) (p : Port) (r : Request) (code : ReplyCode) (ws : List Word) : (s.answered p r code ws).dispenser = s.dispenser := rfl
@[simp] theorem answered_placement (s : State) (p : Port) (r : Request) (code : ReplyCode) (ws : List Word) : (s.answered p r code ws).placement = s.placement := rfl
@[simp] theorem answered_capture (s : State) (p : Port) (r : Request) (code : ReplyCode) (ws : List Word) : (s.answered p r code ws).capture = s.capture := rfl
@[simp] theorem answered_report (s : State) (p : Port) (r : Request) (code : ReplyCode) (ws : List Word) : (s.answered p r code ws).report = s.report := rfl
@[simp] theorem answered_spoilLatch (s : State) (p : Port) (r : Request) (code : ReplyCode) (ws : List Word) : (s.answered p r code ws).spoilLatch = s.spoilLatch := rfl

/-! ## discard -/

@[simp] theorem discard_pending (s : State) (p : Port) : (s.discard p).pending = s.pending := rfl
@[simp] theorem discard_choices (s : State) (p : Port) : (s.discard p).choices = s.choices := rfl
@[simp] theorem discard_supplyLow (s : State) (p : Port) : (s.discard p).supplyLow = s.supplyLow := rfl
@[simp] theorem discard_resetLow (s : State) (p : Port) : (s.discard p).resetLow = s.resetLow := rfl
@[simp] theorem discard_mode (s : State) (p : Port) : (s.discard p).mode = s.mode := rfl
@[simp] theorem discard_lineTime (s : State) (p : Port) : (s.discard p).lineTime = s.lineTime := rfl
@[simp] theorem discard_reports (s : State) (p : Port) : (s.discard p).reports = s.reports := rfl
@[simp] theorem discard_headEnabled (s : State) (p : Port) : (s.discard p).headEnabled = s.headEnabled := rfl
@[simp] theorem discard_settings (s : State) (p : Port) : (s.discard p).settings = s.settings := rfl
@[simp] theorem discard_map (s : State) (p : Port) : (s.discard p).map = s.map := rfl
@[simp] theorem discard_drift (s : State) (p : Port) : (s.discard p).drift = s.drift := rfl
@[simp] theorem discard_claims (s : State) (p : Port) : (s.discard p).claims = s.claims := rfl
@[simp] theorem discard_arbiter (s : State) (p : Port) : (s.discard p).arbiter = s.arbiter := rfl
@[simp] theorem discard_track (s : State) (p : Port) : (s.discard p).track = s.track := rfl
@[simp] theorem discard_dispenser (s : State) (p : Port) : (s.discard p).dispenser = s.dispenser := rfl
@[simp] theorem discard_placement (s : State) (p : Port) : (s.discard p).placement = s.placement := rfl
@[simp] theorem discard_capture (s : State) (p : Port) : (s.discard p).capture = s.capture := rfl
@[simp] theorem discard_report (s : State) (p : Port) : (s.discard p).report = s.report := rfl
@[simp] theorem discard_links (s : State) (p : Port) : (s.discard p).links = s.links.set p (s.link p).discard := rfl
@[simp] theorem discard_spoilLatch (s : State) (p : Port) : (s.discard p).spoilLatch = s.spoilLatch := rfl

/-! ## The link of a port -/

@[simp] theorem setLink_link (s : State) (p : Port) (l : Link) : (s.setLink p l).link p = l := by
  simp [State.link]

theorem setLink_link_ne (s : State) {p q : Port} (l : Link) (hq : q ≠ p) : (s.setLink p l).link q = s.link q := by
  simp [State.link, PerPort.get_set_ne _ _ hq]

@[simp] theorem setLink_setLink (s : State) (p : Port) (l m : Link) : (s.setLink p l).setLink p m = s.setLink p m := by
  simp [State.setLink]

@[simp] theorem setLink_self (s : State) (p : Port) : s.setLink p (s.link p) = s := by
  simp [State.setLink, State.link]

@[simp] theorem reply_link (s : State) (p : Port) (tag : Byte) (code : ReplyCode) (ws : List Word) :
    (s.reply p tag code ws).link p = { s.link p with replies := (s.link p).replies ++ [⟨tag, code, ws⟩] } := by
  simp [State.reply]

theorem reply_link_ne (s : State) {p q : Port} (tag : Byte) (code : ReplyCode) (ws : List Word) (hq : q ≠ p) :
    (s.reply p tag code ws).link q = s.link q := setLink_link_ne s _ hq

@[simp] theorem hold_link (s : State) (p : Port) (r : Request) (e : Option Time) :
    (s.hold p r e).link p = { s.link p with held := some ⟨r, s.lineTime, e⟩ } := by
  simp [State.hold]

theorem hold_link_ne (s : State) {p q : Port} (r : Request) (e : Option Time) (hq : q ≠ p) :
    (s.hold p r e).link q = s.link q := setLink_link_ne s _ hq

@[simp] theorem clearFresh_link (s : State) (p : Port) :
    (s.clearFresh p).link p = { s.link p with fresh := false } := by
  simp [State.clearFresh]

theorem clearFresh_link_ne (s : State) {p q : Port} (hq : q ≠ p) : (s.clearFresh p).link q = s.link q :=
  setLink_link_ne s _ hq

end Sys2Proof.Machine
end

