-- ==== Sys2Proof/Laws/Frames.lean ====
section
/-! SUPPORT. What each shared operation leaves unchanged: one lemma for each operation, for every field that it never
writes, cited by `simp`. -/

namespace Sys2Proof.Machine

open Sys2Proof

@[simp] theorem answerHeld_frame (s : State) (p : Port) (code : ReplyCode) (ws : List Word) :
    (s.answerHeld p code ws).pending = s.pending
      ∧ (s.answerHeld p code ws).choices = s.choices
      ∧ (s.answerHeld p code ws).supplyLow = s.supplyLow
      ∧ (s.answerHeld p code ws).resetLow = s.resetLow
      ∧ (s.answerHeld p code ws).mode = s.mode
      ∧ (s.answerHeld p code ws).lineTime = s.lineTime
      ∧ (s.answerHeld p code ws).reports = s.reports
      ∧ (s.answerHeld p code ws).headEnabled = s.headEnabled
      ∧ (s.answerHeld p code ws).settings = s.settings
      ∧ (s.answerHeld p code ws).map = s.map
      ∧ (s.answerHeld p code ws).drift = s.drift
      ∧ (s.answerHeld p code ws).claims = s.claims
      ∧ (s.answerHeld p code ws).arbiter = s.arbiter
      ∧ (s.answerHeld p code ws).track = s.track
      ∧ (s.answerHeld p code ws).dispenser = s.dispenser
      ∧ (s.answerHeld p code ws).placement = s.placement
      ∧ (s.answerHeld p code ws).capture = s.capture
      ∧ (s.answerHeld p code ws).report = s.report
      ∧ (s.answerHeld p code ws).spoilLatch = s.spoilLatch := by
  unfold State.answerHeld
  repeat' split
  all_goals simp

@[simp] theorem notify_frame (s : State) (kind : NoticeKind) (data : List Word) :
    (s.notify kind data).pending = s.pending
      ∧ (s.notify kind data).choices = s.choices
      ∧ (s.notify kind data).supplyLow = s.supplyLow
      ∧ (s.notify kind data).resetLow = s.resetLow
      ∧ (s.notify kind data).mode = s.mode
      ∧ (s.notify kind data).lineTime = s.lineTime
      ∧ (s.notify kind data).reports = s.reports
      ∧ (s.notify kind data).headEnabled = s.headEnabled
      ∧ (s.notify kind data).settings = s.settings
      ∧ (s.notify kind data).map = s.map
      ∧ (s.notify kind data).drift = s.drift
      ∧ (s.notify kind data).claims = s.claims
      ∧ (s.notify kind data).arbiter = s.arbiter
      ∧ (s.notify kind data).track = s.track
      ∧ (s.notify kind data).dispenser = s.dispenser
      ∧ (s.notify kind data).placement = s.placement
      ∧ (s.notify kind data).capture = s.capture
      ∧ (s.notify kind data).links = s.links
      ∧ (s.notify kind data).spoilLatch = s.spoilLatch
      ∧ (s.notify kind data).report.log = s.report.log
      ∧ (s.notify kind data).report.nextSeq = s.report.nextSeq := by
  unfold State.notify
  repeat' split
  all_goals simp

@[simp] theorem absorb_frame (s : State) (ex ey : Int) :
    (s.absorb ex ey).pending = s.pending
      ∧ (s.absorb ex ey).choices = s.choices
      ∧ (s.absorb ex ey).supplyLow = s.supplyLow
      ∧ (s.absorb ex ey).resetLow = s.resetLow
      ∧ (s.absorb ex ey).mode = s.mode
      ∧ (s.absorb ex ey).lineTime = s.lineTime
      ∧ (s.absorb ex ey).reports = s.reports
      ∧ (s.absorb ex ey).headEnabled = s.headEnabled
      ∧ (s.absorb ex ey).settings = s.settings
      ∧ (s.absorb ex ey).map = s.map
      ∧ (s.absorb ex ey).claims = s.claims
      ∧ (s.absorb ex ey).arbiter = s.arbiter
      ∧ (s.absorb ex ey).track = s.track
      ∧ (s.absorb ex ey).dispenser = s.dispenser
      ∧ (s.absorb ex ey).placement = s.placement
      ∧ (s.absorb ex ey).capture = s.capture
      ∧ (s.absorb ex ey).report = s.report
      ∧ (s.absorb ex ey).links = s.links
      ∧ (s.absorb ex ey).spoilLatch = s.spoilLatch := by
  unfold State.absorb
  all_goals simp

@[simp] theorem clampDrifts_frame (s : State) :
    (s.clampDrifts).pending = s.pending
      ∧ (s.clampDrifts).choices = s.choices
      ∧ (s.clampDrifts).supplyLow = s.supplyLow
      ∧ (s.clampDrifts).resetLow = s.resetLow
      ∧ (s.clampDrifts).mode = s.mode
      ∧ (s.clampDrifts).lineTime = s.lineTime
      ∧ (s.clampDrifts).reports = s.reports
      ∧ (s.clampDrifts).headEnabled = s.headEnabled
      ∧ (s.clampDrifts).settings = s.settings
      ∧ (s.clampDrifts).map = s.map
      ∧ (s.clampDrifts).claims = s.claims
      ∧ (s.clampDrifts).arbiter = s.arbiter
      ∧ (s.clampDrifts).track = s.track
      ∧ (s.clampDrifts).dispenser = s.dispenser
      ∧ (s.clampDrifts).placement = s.placement
      ∧ (s.clampDrifts).capture = s.capture
      ∧ (s.clampDrifts).report = s.report
      ∧ (s.clampDrifts).links = s.links
      ∧ (s.clampDrifts).spoilLatch = s.spoilLatch := by
  unfold State.clampDrifts
  all_goals simp

@[simp] theorem evalWaferLow_frame (s : State) :
    (s.evalWaferLow).pending = s.pending
      ∧ (s.evalWaferLow).choices = s.choices
      ∧ (s.evalWaferLow).supplyLow = s.supplyLow
      ∧ (s.evalWaferLow).resetLow = s.resetLow
      ∧ (s.evalWaferLow).mode = s.mode
      ∧ (s.evalWaferLow).lineTime = s.lineTime
      ∧ (s.evalWaferLow).reports = s.reports
      ∧ (s.evalWaferLow).headEnabled = s.headEnabled
      ∧ (s.evalWaferLow).settings = s.settings
      ∧ (s.evalWaferLow).drift = s.drift
      ∧ (s.evalWaferLow).claims = s.claims
      ∧ (s.evalWaferLow).arbiter = s.arbiter
      ∧ (s.evalWaferLow).track = s.track
      ∧ (s.evalWaferLow).dispenser = s.dispenser
      ∧ (s.evalWaferLow).placement = s.placement
      ∧ (s.evalWaferLow).capture = s.capture
      ∧ (s.evalWaferLow).links = s.links
      ∧ (s.evalWaferLow).spoilLatch = s.spoilLatch
      ∧ (s.evalWaferLow).report.log = s.report.log
      ∧ (s.evalWaferLow).report.nextSeq = s.report.nextSeq
      ∧ (s.evalWaferLow).map.table = s.map.table
      ∧ (s.evalWaferLow).map.phase = s.map.phase
      ∧ (s.evalWaferLow).map.nextIndex = s.map.nextIndex
      ∧ (s.evalWaferLow).map.counts = s.map.counts
      ∧ (s.evalWaferLow).map.eligible = s.map.eligible
      ∧ (s.evalWaferLow).map.returned = s.map.returned
      ∧ (s.evalWaferLow).map.cursor = s.map.cursor
      ∧ (s.evalWaferLow).map.rescan = s.map.rescan
      ∧ (s.evalWaferLow).map.waferEmpty = s.map.waferEmpty
      ∧ (s.evalWaferLow).map.bitmap = s.map.bitmap := by
  unfold State.evalWaferLow
  repeat' split
  all_goals simp

@[simp] theorem leaveAvailable_frame (s : State) (bin : Nat) :
    (s.leaveAvailable bin).pending = s.pending
      ∧ (s.leaveAvailable bin).choices = s.choices
      ∧ (s.leaveAvailable bin).supplyLow = s.supplyLow
      ∧ (s.leaveAvailable bin).resetLow = s.resetLow
      ∧ (s.leaveAvailable bin).mode = s.mode
      ∧ (s.leaveAvailable bin).lineTime = s.lineTime
      ∧ (s.leaveAvailable bin).reports = s.reports
      ∧ (s.leaveAvailable bin).headEnabled = s.headEnabled
      ∧ (s.leaveAvailable bin).settings = s.settings
      ∧ (s.leaveAvailable bin).drift = s.drift
      ∧ (s.leaveAvailable bin).claims = s.claims
      ∧ (s.leaveAvailable bin).arbiter = s.arbiter
      ∧ (s.leaveAvailable bin).track = s.track
      ∧ (s.leaveAvailable bin).dispenser = s.dispenser
      ∧ (s.leaveAvailable bin).placement = s.placement
      ∧ (s.leaveAvailable bin).capture = s.capture
      ∧ (s.leaveAvailable bin).links = s.links
      ∧ (s.leaveAvailable bin).spoilLatch = s.spoilLatch
      ∧ (s.leaveAvailable bin).report.log = s.report.log
      ∧ (s.leaveAvailable bin).report.nextSeq = s.report.nextSeq
      ∧ (s.leaveAvailable bin).map.table = s.map.table
      ∧ (s.leaveAvailable bin).map.phase = s.map.phase
      ∧ (s.leaveAvailable bin).map.nextIndex = s.map.nextIndex
      ∧ (s.leaveAvailable bin).map.counts = s.map.counts
      ∧ (s.leaveAvailable bin).map.returned = s.map.returned
      ∧ (s.leaveAvailable bin).map.cursor = s.map.cursor
      ∧ (s.leaveAvailable bin).map.rescan = s.map.rescan
      ∧ (s.leaveAvailable bin).map.waferEmpty = s.map.waferEmpty
      ∧ (s.leaveAvailable bin).map.bitmap = s.map.bitmap := by
  unfold State.leaveAvailable
  repeat' split
  all_goals simp

@[simp] theorem enterAvailable_frame (s : State) (index bin : Nat) :
    (s.enterAvailable index bin).pending = s.pending
      ∧ (s.enterAvailable index bin).choices = s.choices
      ∧ (s.enterAvailable index bin).supplyLow = s.supplyLow
      ∧ (s.enterAvailable index bin).resetLow = s.resetLow
      ∧ (s.enterAvailable index bin).mode = s.mode
      ∧ (s.enterAvailable index bin).lineTime = s.lineTime
      ∧ (s.enterAvailable index bin).reports = s.reports
      ∧ (s.enterAvailable index bin).headEnabled = s.headEnabled
      ∧ (s.enterAvailable index bin).settings = s.settings
      ∧ (s.enterAvailable index bin).drift = s.drift
      ∧ (s.enterAvailable index bin).claims = s.claims
      ∧ (s.enterAvailable index bin).arbiter = s.arbiter
      ∧ (s.enterAvailable index bin).track = s.track
      ∧ (s.enterAvailable index bin).dispenser = s.dispenser
      ∧ (s.enterAvailable index bin).placement = s.placement
      ∧ (s.enterAvailable index bin).capture = s.capture
      ∧ (s.enterAvailable index bin).links = s.links
      ∧ (s.enterAvailable index bin).spoilLatch = s.spoilLatch
      ∧ (s.enterAvailable index bin).report.log = s.report.log
      ∧ (s.enterAvailable index bin).report.nextSeq = s.report.nextSeq
      ∧ (s.enterAvailable index bin).map.table = s.map.table
      ∧ (s.enterAvailable index bin).map.phase = s.map.phase
      ∧ (s.enterAvailable index bin).map.nextIndex = s.map.nextIndex
      ∧ (s.enterAvailable index bin).map.counts = s.map.counts
      ∧ (s.enterAvailable index bin).map.cursor = s.map.cursor
      ∧ (s.enterAvailable index bin).map.bitmap = s.map.bitmap := by
  unfold State.enterAvailable
  simp only
  split <;> split <;> simp

@[simp] theorem moveDie_frame (s : State) (wafer : Word) (index : Nat) (new : DieState) (cause : Option DieCause) (claimant : Option Head) :
    (s.moveDie wafer index new cause claimant).pending = s.pending
      ∧ (s.moveDie wafer index new cause claimant).choices = s.choices
      ∧ (s.moveDie wafer index new cause claimant).supplyLow = s.supplyLow
      ∧ (s.moveDie wafer index new cause claimant).resetLow = s.resetLow
      ∧ (s.moveDie wafer index new cause claimant).mode = s.mode
      ∧ (s.moveDie wafer index new cause claimant).lineTime = s.lineTime
      ∧ (s.moveDie wafer index new cause claimant).reports = s.reports
      ∧ (s.moveDie wafer index new cause claimant).headEnabled = s.headEnabled
      ∧ (s.moveDie wafer index new cause claimant).settings = s.settings
      ∧ (s.moveDie wafer index new cause claimant).drift = s.drift
      ∧ (s.moveDie wafer index new cause claimant).claims = s.claims
      ∧ (s.moveDie wafer index new cause claimant).arbiter = s.arbiter
      ∧ (s.moveDie wafer index new cause claimant).track = s.track
      ∧ (s.moveDie wafer index new cause claimant).dispenser = s.dispenser
      ∧ (s.moveDie wafer index new cause claimant).placement = s.placement
      ∧ (s.moveDie wafer index new cause claimant).capture = s.capture
      ∧ (s.moveDie wafer index new cause claimant).links = s.links
      ∧ (s.moveDie wafer index new cause claimant).spoilLatch = s.spoilLatch
      ∧ (s.moveDie wafer index new cause claimant).report.log = s.report.log
      ∧ (s.moveDie wafer index new cause claimant).report.nextSeq = s.report.nextSeq
      ∧ (s.moveDie wafer index new cause claimant).map.phase = s.map.phase
      ∧ (s.moveDie wafer index new cause claimant).map.nextIndex = s.map.nextIndex
      ∧ (s.moveDie wafer index new cause claimant).map.cursor = s.map.cursor
      ∧ (s.moveDie wafer index new cause claimant).map.bitmap = s.map.bitmap := by
  unfold State.moveDie
  split <;> [simp; (split <;> [(split <;> [simp; skip]); simp])]
  split <;> split <;> simp

@[simp] theorem setRetries_frame (s : State) (wafer : Word) (index retries : Nat) :
    (s.setRetries wafer index retries).pending = s.pending
      ∧ (s.setRetries wafer index retries).choices = s.choices
      ∧ (s.setRetries wafer index retries).supplyLow = s.supplyLow
      ∧ (s.setRetries wafer index retries).resetLow = s.resetLow
      ∧ (s.setRetries wafer index retries).mode = s.mode
      ∧ (s.setRetries wafer index retries).lineTime = s.lineTime
      ∧ (s.setRetries wafer index retries).reports = s.reports
      ∧ (s.setRetries wafer index retries).headEnabled = s.headEnabled
      ∧ (s.setRetries wafer index retries).settings = s.settings
      ∧ (s.setRetries wafer index retries).drift = s.drift
      ∧ (s.setRetries wafer index retries).claims = s.claims
      ∧ (s.setRetries wafer index retries).arbiter = s.arbiter
      ∧ (s.setRetries wafer index retries).track = s.track
      ∧ (s.setRetries wafer index retries).dispenser = s.dispenser
      ∧ (s.setRetries wafer index retries).placement = s.placement
      ∧ (s.setRetries wafer index retries).capture = s.capture
      ∧ (s.setRetries wafer index retries).report = s.report
      ∧ (s.setRetries wafer index retries).links = s.links
      ∧ (s.setRetries wafer index retries).spoilLatch = s.spoilLatch
      ∧ (s.setRetries wafer index retries).report.log = s.report.log
      ∧ (s.setRetries wafer index retries).report.nextSeq = s.report.nextSeq
      ∧ (s.setRetries wafer index retries).map.phase = s.map.phase
      ∧ (s.setRetries wafer index retries).map.nextIndex = s.map.nextIndex
      ∧ (s.setRetries wafer index retries).map.counts = s.map.counts := by
  unfold State.setRetries
  repeat' split
  all_goals simp

@[simp] theorem rejectUnreachable_frame (s : State) (w : WaferInfo) (index : Nat) (d : DieRecord) :
    (s.rejectUnreachable w index d).pending = s.pending
      ∧ (s.rejectUnreachable w index d).choices = s.choices
      ∧ (s.rejectUnreachable w index d).supplyLow = s.supplyLow
      ∧ (s.rejectUnreachable w index d).resetLow = s.resetLow
      ∧ (s.rejectUnreachable w index d).mode = s.mode
      ∧ (s.rejectUnreachable w index d).lineTime = s.lineTime
      ∧ (s.rejectUnreachable w index d).reports = s.reports
      ∧ (s.rejectUnreachable w index d).headEnabled = s.headEnabled
      ∧ (s.rejectUnreachable w index d).settings = s.settings
      ∧ (s.rejectUnreachable w index d).drift = s.drift
      ∧ (s.rejectUnreachable w index d).claims = s.claims
      ∧ (s.rejectUnreachable w index d).arbiter = s.arbiter
      ∧ (s.rejectUnreachable w index d).track = s.track
      ∧ (s.rejectUnreachable w index d).dispenser = s.dispenser
      ∧ (s.rejectUnreachable w index d).placement = s.placement
      ∧ (s.rejectUnreachable w index d).capture = s.capture
      ∧ (s.rejectUnreachable w index d).links = s.links
      ∧ (s.rejectUnreachable w index d).spoilLatch = s.spoilLatch
      ∧ (s.rejectUnreachable w index d).report.log = s.report.log
      ∧ (s.rejectUnreachable w index d).report.nextSeq = s.report.nextSeq
      ∧ (s.rejectUnreachable w index d).map.phase = s.map.phase
      ∧ (s.rejectUnreachable w index d).map.nextIndex = s.map.nextIndex
      ∧ (s.rejectUnreachable w index d).map.cursor = s.map.cursor := by
  unfold State.rejectUnreachable
  all_goals simp

@[simp] theorem tryDie_frame (s : State) (w : WaferInfo) (index : Nat) :
    (s.tryDie w index).2.pending = s.pending
      ∧ (s.tryDie w index).2.choices = s.choices
      ∧ (s.tryDie w index).2.supplyLow = s.supplyLow
      ∧ (s.tryDie w index).2.resetLow = s.resetLow
      ∧ (s.tryDie w index).2.mode = s.mode
      ∧ (s.tryDie w index).2.lineTime = s.lineTime
      ∧ (s.tryDie w index).2.reports = s.reports
      ∧ (s.tryDie w index).2.headEnabled = s.headEnabled
      ∧ (s.tryDie w index).2.settings = s.settings
      ∧ (s.tryDie w index).2.drift = s.drift
      ∧ (s.tryDie w index).2.claims = s.claims
      ∧ (s.tryDie w index).2.arbiter = s.arbiter
      ∧ (s.tryDie w index).2.track = s.track
      ∧ (s.tryDie w index).2.dispenser = s.dispenser
      ∧ (s.tryDie w index).2.placement = s.placement
      ∧ (s.tryDie w index).2.capture = s.capture
      ∧ (s.tryDie w index).2.links = s.links
      ∧ (s.tryDie w index).2.spoilLatch = s.spoilLatch
      ∧ (s.tryDie w index).2.report.log = s.report.log
      ∧ (s.tryDie w index).2.report.nextSeq = s.report.nextSeq
      ∧ (s.tryDie w index).2.map.phase = s.map.phase
      ∧ (s.tryDie w index).2.map.nextIndex = s.map.nextIndex
      ∧ (s.tryDie w index).2.map.cursor = s.map.cursor := by
  unfold State.tryDie
  repeat' split
  all_goals simp

@[simp] theorem selectQueued_frame (s : State) (w : WaferInfo) (l : List Nat) :
    (selectQueued w l s).2.pending = s.pending
      ∧ (selectQueued w l s).2.choices = s.choices
      ∧ (selectQueued w l s).2.supplyLow = s.supplyLow
      ∧ (selectQueued w l s).2.resetLow = s.resetLow
      ∧ (selectQueued w l s).2.mode = s.mode
      ∧ (selectQueued w l s).2.lineTime = s.lineTime
      ∧ (selectQueued w l s).2.reports = s.reports
      ∧ (selectQueued w l s).2.headEnabled = s.headEnabled
      ∧ (selectQueued w l s).2.settings = s.settings
      ∧ (selectQueued w l s).2.drift = s.drift
      ∧ (selectQueued w l s).2.claims = s.claims
      ∧ (selectQueued w l s).2.arbiter = s.arbiter
      ∧ (selectQueued w l s).2.track = s.track
      ∧ (selectQueued w l s).2.dispenser = s.dispenser
      ∧ (selectQueued w l s).2.placement = s.placement
      ∧ (selectQueued w l s).2.capture = s.capture
      ∧ (selectQueued w l s).2.links = s.links
      ∧ (selectQueued w l s).2.spoilLatch = s.spoilLatch
      ∧ (selectQueued w l s).2.report.log = s.report.log
      ∧ (selectQueued w l s).2.report.nextSeq = s.report.nextSeq
      ∧ (selectQueued w l s).2.map.phase = s.map.phase
      ∧ (selectQueued w l s).2.map.nextIndex = s.map.nextIndex := by
  induction l generalizing s with
  | nil => simp [selectQueued]
  | cons i rest ih =>
    unfold selectQueued
    split
    · next t h => have e := congrArg Prod.snd h; simp only at e; subst e; simp
    · next t h => have e := congrArg Prod.snd h; simp only at e; subst e; simp [ih]

@[simp] theorem selectScan_frame (s : State) (w : WaferInfo) (k : Nat) :
    (selectScan w k s).2.pending = s.pending
      ∧ (selectScan w k s).2.choices = s.choices
      ∧ (selectScan w k s).2.supplyLow = s.supplyLow
      ∧ (selectScan w k s).2.resetLow = s.resetLow
      ∧ (selectScan w k s).2.mode = s.mode
      ∧ (selectScan w k s).2.lineTime = s.lineTime
      ∧ (selectScan w k s).2.reports = s.reports
      ∧ (selectScan w k s).2.headEnabled = s.headEnabled
      ∧ (selectScan w k s).2.settings = s.settings
      ∧ (selectScan w k s).2.drift = s.drift
      ∧ (selectScan w k s).2.claims = s.claims
      ∧ (selectScan w k s).2.arbiter = s.arbiter
      ∧ (selectScan w k s).2.track = s.track
      ∧ (selectScan w k s).2.dispenser = s.dispenser
      ∧ (selectScan w k s).2.placement = s.placement
      ∧ (selectScan w k s).2.capture = s.capture
      ∧ (selectScan w k s).2.links = s.links
      ∧ (selectScan w k s).2.spoilLatch = s.spoilLatch
      ∧ (selectScan w k s).2.report.log = s.report.log
      ∧ (selectScan w k s).2.report.nextSeq = s.report.nextSeq
      ∧ (selectScan w k s).2.map.phase = s.map.phase
      ∧ (selectScan w k s).2.map.nextIndex = s.map.nextIndex := by
  induction k generalizing s with
  | zero => simp [selectScan]
  | succ k ih =>
    unfold selectScan
    split
    · next t h => have e := congrArg Prod.snd h; simp only at e; subst e; simp
    · next t h => have e := congrArg Prod.snd h; simp only at e; subst e; simp [ih]

@[simp] theorem selectScans_frame (s : State) (w : WaferInfo) :
    (selectScans w s).2.pending = s.pending
      ∧ (selectScans w s).2.choices = s.choices
      ∧ (selectScans w s).2.supplyLow = s.supplyLow
      ∧ (selectScans w s).2.resetLow = s.resetLow
      ∧ (selectScans w s).2.mode = s.mode
      ∧ (selectScans w s).2.lineTime = s.lineTime
      ∧ (selectScans w s).2.reports = s.reports
      ∧ (selectScans w s).2.headEnabled = s.headEnabled
      ∧ (selectScans w s).2.settings = s.settings
      ∧ (selectScans w s).2.drift = s.drift
      ∧ (selectScans w s).2.claims = s.claims
      ∧ (selectScans w s).2.arbiter = s.arbiter
      ∧ (selectScans w s).2.track = s.track
      ∧ (selectScans w s).2.dispenser = s.dispenser
      ∧ (selectScans w s).2.placement = s.placement
      ∧ (selectScans w s).2.capture = s.capture
      ∧ (selectScans w s).2.links = s.links
      ∧ (selectScans w s).2.spoilLatch = s.spoilLatch
      ∧ (selectScans w s).2.report.log = s.report.log
      ∧ (selectScans w s).2.report.nextSeq = s.report.nextSeq
      ∧ (selectScans w s).2.map.phase = s.map.phase
      ∧ (selectScans w s).2.map.nextIndex = s.map.nextIndex := by
  unfold selectScans
  split
  · next i t h => have e := congrArg Prod.snd h; simp only at e; subst e; simp
  · next t h => have e := congrArg Prod.snd h; simp only at e; subst e; split <;> simp

@[simp] theorem selectDie_frame (s : State) (w : WaferInfo) :
    (selectDie w s).2.pending = s.pending
      ∧ (selectDie w s).2.choices = s.choices
      ∧ (selectDie w s).2.supplyLow = s.supplyLow
      ∧ (selectDie w s).2.resetLow = s.resetLow
      ∧ (selectDie w s).2.mode = s.mode
      ∧ (selectDie w s).2.lineTime = s.lineTime
      ∧ (selectDie w s).2.reports = s.reports
      ∧ (selectDie w s).2.headEnabled = s.headEnabled
      ∧ (selectDie w s).2.settings = s.settings
      ∧ (selectDie w s).2.drift = s.drift
      ∧ (selectDie w s).2.claims = s.claims
      ∧ (selectDie w s).2.arbiter = s.arbiter
      ∧ (selectDie w s).2.track = s.track
      ∧ (selectDie w s).2.dispenser = s.dispenser
      ∧ (selectDie w s).2.placement = s.placement
      ∧ (selectDie w s).2.capture = s.capture
      ∧ (selectDie w s).2.links = s.links
      ∧ (selectDie w s).2.spoilLatch = s.spoilLatch
      ∧ (selectDie w s).2.report.log = s.report.log
      ∧ (selectDie w s).2.report.nextSeq = s.report.nextSeq
      ∧ (selectDie w s).2.map.phase = s.map.phase
      ∧ (selectDie w s).2.map.nextIndex = s.map.nextIndex := by
  unfold selectDie
  split
  · next i t h => have e := congrArg Prod.snd h; simp only at e; subst e; simp
  · next t h => have e := congrArg Prod.snd h; simp only at e; subst e; simp

@[simp] theorem nothingFound_frame (s : State) (w : WaferInfo) :
    (s.nothingFound w).pending = s.pending
      ∧ (s.nothingFound w).choices = s.choices
      ∧ (s.nothingFound w).supplyLow = s.supplyLow
      ∧ (s.nothingFound w).resetLow = s.resetLow
      ∧ (s.nothingFound w).mode = s.mode
      ∧ (s.nothingFound w).lineTime = s.lineTime
      ∧ (s.nothingFound w).reports = s.reports
      ∧ (s.nothingFound w).headEnabled = s.headEnabled
      ∧ (s.nothingFound w).settings = s.settings
      ∧ (s.nothingFound w).drift = s.drift
      ∧ (s.nothingFound w).claims = s.claims
      ∧ (s.nothingFound w).arbiter = s.arbiter
      ∧ (s.nothingFound w).track = s.track
      ∧ (s.nothingFound w).dispenser = s.dispenser
      ∧ (s.nothingFound w).placement = s.placement
      ∧ (s.nothingFound w).capture = s.capture
      ∧ (s.nothingFound w).links = s.links
      ∧ (s.nothingFound w).spoilLatch = s.spoilLatch
      ∧ (s.nothingFound w).report.log = s.report.log
      ∧ (s.nothingFound w).report.nextSeq = s.report.nextSeq
      ∧ (s.nothingFound w).map.phase = s.map.phase
      ∧ (s.nothingFound w).map.nextIndex = s.map.nextIndex
      ∧ (s.nothingFound w).map.table = s.map.table
      ∧ (s.nothingFound w).map.counts = s.map.counts
      ∧ (s.nothingFound w).map.eligible = s.map.eligible
      ∧ (s.nothingFound w).map.returned = s.map.returned := by
  unfold State.nothingFound
  repeat' split
  all_goals simp

@[simp] theorem removeClaim_frame (s : State) (h : Head) (die : Nat) (st : ClaimState) :
    (s.removeClaim h die st).pending = s.pending
      ∧ (s.removeClaim h die st).choices = s.choices
      ∧ (s.removeClaim h die st).supplyLow = s.supplyLow
      ∧ (s.removeClaim h die st).resetLow = s.resetLow
      ∧ (s.removeClaim h die st).mode = s.mode
      ∧ (s.removeClaim h die st).lineTime = s.lineTime
      ∧ (s.removeClaim h die st).reports = s.reports
      ∧ (s.removeClaim h die st).headEnabled = s.headEnabled
      ∧ (s.removeClaim h die st).settings = s.settings
      ∧ (s.removeClaim h die st).map = s.map
      ∧ (s.removeClaim h die st).drift = s.drift
      ∧ (s.removeClaim h die st).arbiter = s.arbiter
      ∧ (s.removeClaim h die st).track = s.track
      ∧ (s.removeClaim h die st).dispenser = s.dispenser
      ∧ (s.removeClaim h die st).placement = s.placement
      ∧ (s.removeClaim h die st).capture = s.capture
      ∧ (s.removeClaim h die st).report = s.report
      ∧ (s.removeClaim h die st).links = s.links
      ∧ (s.removeClaim h die st).spoilLatch = s.spoilLatch := by
  unfold State.removeClaim
  all_goals simp

@[simp] theorem updateClaim_frame (s : State) (h : Head) (die : Nat) (st : ClaimState) (f : Claim → Claim) :
    (s.updateClaim h die st f).pending = s.pending
      ∧ (s.updateClaim h die st f).choices = s.choices
      ∧ (s.updateClaim h die st f).supplyLow = s.supplyLow
      ∧ (s.updateClaim h die st f).resetLow = s.resetLow
      ∧ (s.updateClaim h die st f).mode = s.mode
      ∧ (s.updateClaim h die st f).lineTime = s.lineTime
      ∧ (s.updateClaim h die st f).reports = s.reports
      ∧ (s.updateClaim h die st f).headEnabled = s.headEnabled
      ∧ (s.updateClaim h die st f).settings = s.settings
      ∧ (s.updateClaim h die st f).map = s.map
      ∧ (s.updateClaim h die st f).drift = s.drift
      ∧ (s.updateClaim h die st f).arbiter = s.arbiter
      ∧ (s.updateClaim h die st f).track = s.track
      ∧ (s.updateClaim h die st f).dispenser = s.dispenser
      ∧ (s.updateClaim h die st f).placement = s.placement
      ∧ (s.updateClaim h die st f).capture = s.capture
      ∧ (s.updateClaim h die st f).report = s.report
      ∧ (s.updateClaim h die st f).links = s.links
      ∧ (s.updateClaim h die st f).spoilLatch = s.spoilLatch := by
  unfold State.updateClaim
  all_goals simp

@[simp] theorem moveClaim_frame (s : State) (h : Head) (die : Nat) (old new : ClaimState) :
    (s.moveClaim h die old new).pending = s.pending
      ∧ (s.moveClaim h die old new).choices = s.choices
      ∧ (s.moveClaim h die old new).supplyLow = s.supplyLow
      ∧ (s.moveClaim h die old new).resetLow = s.resetLow
      ∧ (s.moveClaim h die old new).mode = s.mode
      ∧ (s.moveClaim h die old new).lineTime = s.lineTime
      ∧ (s.moveClaim h die old new).reports = s.reports
      ∧ (s.moveClaim h die old new).headEnabled = s.headEnabled
      ∧ (s.moveClaim h die old new).settings = s.settings
      ∧ (s.moveClaim h die old new).map = s.map
      ∧ (s.moveClaim h die old new).drift = s.drift
      ∧ (s.moveClaim h die old new).arbiter = s.arbiter
      ∧ (s.moveClaim h die old new).track = s.track
      ∧ (s.moveClaim h die old new).dispenser = s.dispenser
      ∧ (s.moveClaim h die old new).placement = s.placement
      ∧ (s.moveClaim h die old new).capture = s.capture
      ∧ (s.moveClaim h die old new).report = s.report
      ∧ (s.moveClaim h die old new).links = s.links
      ∧ (s.moveClaim h die old new).spoilLatch = s.spoilLatch := by
  unfold State.moveClaim
  all_goals simp

@[simp] theorem serveReserve_frame (s : State) (h : Head) (w : WaferInfo) :
    (s.serveReserve h w).2.pending = s.pending
      ∧ (s.serveReserve h w).2.choices = s.choices
      ∧ (s.serveReserve h w).2.supplyLow = s.supplyLow
      ∧ (s.serveReserve h w).2.resetLow = s.resetLow
      ∧ (s.serveReserve h w).2.mode = s.mode
      ∧ (s.serveReserve h w).2.lineTime = s.lineTime
      ∧ (s.serveReserve h w).2.reports = s.reports
      ∧ (s.serveReserve h w).2.headEnabled = s.headEnabled
      ∧ (s.serveReserve h w).2.settings = s.settings
      ∧ (s.serveReserve h w).2.drift = s.drift
      ∧ (s.serveReserve h w).2.arbiter = s.arbiter
      ∧ (s.serveReserve h w).2.track = s.track
      ∧ (s.serveReserve h w).2.dispenser = s.dispenser
      ∧ (s.serveReserve h w).2.placement = s.placement
      ∧ (s.serveReserve h w).2.capture = s.capture
      ∧ (s.serveReserve h w).2.links = s.links
      ∧ (s.serveReserve h w).2.spoilLatch = s.spoilLatch
      ∧ (s.serveReserve h w).2.report.log = s.report.log
      ∧ (s.serveReserve h w).2.report.nextSeq = s.report.nextSeq
      ∧ (s.serveReserve h w).2.map.phase = s.map.phase
      ∧ (s.serveReserve h w).2.map.nextIndex = s.map.nextIndex := by
  unfold State.serveReserve
  split
  · next t h => have e := congrArg Prod.snd h; simp only at e; subst e; simp
  · next i t h => have e := congrArg Prod.snd h; simp only at e; subst e; split <;> simp

@[simp] theorem wakeReserve_frame (s : State) (h : Head) :
    (s.wakeReserve h).pending = s.pending
      ∧ (s.wakeReserve h).choices = s.choices
      ∧ (s.wakeReserve h).supplyLow = s.supplyLow
      ∧ (s.wakeReserve h).resetLow = s.resetLow
      ∧ (s.wakeReserve h).mode = s.mode
      ∧ (s.wakeReserve h).lineTime = s.lineTime
      ∧ (s.wakeReserve h).reports = s.reports
      ∧ (s.wakeReserve h).headEnabled = s.headEnabled
      ∧ (s.wakeReserve h).settings = s.settings
      ∧ (s.wakeReserve h).drift = s.drift
      ∧ (s.wakeReserve h).arbiter = s.arbiter
      ∧ (s.wakeReserve h).track = s.track
      ∧ (s.wakeReserve h).dispenser = s.dispenser
      ∧ (s.wakeReserve h).placement = s.placement
      ∧ (s.wakeReserve h).capture = s.capture
      ∧ (s.wakeReserve h).spoilLatch = s.spoilLatch
      ∧ (s.wakeReserve h).report.log = s.report.log
      ∧ (s.wakeReserve h).report.nextSeq = s.report.nextSeq
      ∧ (s.wakeReserve h).map.phase = s.map.phase
      ∧ (s.wakeReserve h).map.nextIndex = s.map.nextIndex := by
  unfold State.wakeReserve State.tryReserve
  split <;> [skip; simp]
  split
  · simp
  · next ans t h =>
    split at h <;> [cases h; skip]
    split at h <;> [cases h; skip]
    simp only [Option.some.injEq] at h
    have e := congrArg Prod.snd h; simp only at e; subst e; simp

@[simp] theorem wakeReserves_frame (s : State) :
    (s.wakeReserves).pending = s.pending
      ∧ (s.wakeReserves).choices = s.choices
      ∧ (s.wakeReserves).supplyLow = s.supplyLow
      ∧ (s.wakeReserves).resetLow = s.resetLow
      ∧ (s.wakeReserves).mode = s.mode
      ∧ (s.wakeReserves).lineTime = s.lineTime
      ∧ (s.wakeReserves).reports = s.reports
      ∧ (s.wakeReserves).headEnabled = s.headEnabled
      ∧ (s.wakeReserves).settings = s.settings
      ∧ (s.wakeReserves).drift = s.drift
      ∧ (s.wakeReserves).arbiter = s.arbiter
      ∧ (s.wakeReserves).track = s.track
      ∧ (s.wakeReserves).dispenser = s.dispenser
      ∧ (s.wakeReserves).placement = s.placement
      ∧ (s.wakeReserves).capture = s.capture
      ∧ (s.wakeReserves).spoilLatch = s.spoilLatch
      ∧ (s.wakeReserves).report.log = s.report.log
      ∧ (s.wakeReserves).report.nextSeq = s.report.nextSeq
      ∧ (s.wakeReserves).map.phase = s.map.phase
      ∧ (s.wakeReserves).map.nextIndex = s.map.nextIndex := by
  unfold State.wakeReserves
  repeat' split
  all_goals simp

@[simp] theorem freeStation_frame (s : State) (h : Head) :
    (s.freeStation h).pending = s.pending
      ∧ (s.freeStation h).choices = s.choices
      ∧ (s.freeStation h).supplyLow = s.supplyLow
      ∧ (s.freeStation h).resetLow = s.resetLow
      ∧ (s.freeStation h).mode = s.mode
      ∧ (s.freeStation h).lineTime = s.lineTime
      ∧ (s.freeStation h).reports = s.reports
      ∧ (s.freeStation h).headEnabled = s.headEnabled
      ∧ (s.freeStation h).settings = s.settings
      ∧ (s.freeStation h).map = s.map
      ∧ (s.freeStation h).drift = s.drift
      ∧ (s.freeStation h).claims = s.claims
      ∧ (s.freeStation h).track = s.track
      ∧ (s.freeStation h).dispenser = s.dispenser
      ∧ (s.freeStation h).placement = s.placement
      ∧ (s.freeStation h).capture = s.capture
      ∧ (s.freeStation h).report = s.report
      ∧ (s.freeStation h).links = s.links
      ∧ (s.freeStation h).spoilLatch = s.spoilLatch := by
  unfold State.freeStation
  all_goals simp

@[simp] theorem deliver_frame (s : State) :
    (s.deliver).pending = s.pending
      ∧ (s.deliver).choices = s.choices
      ∧ (s.deliver).supplyLow = s.supplyLow
      ∧ (s.deliver).resetLow = s.resetLow
      ∧ (s.deliver).mode = s.mode
      ∧ (s.deliver).lineTime = s.lineTime
      ∧ (s.deliver).reports = s.reports
      ∧ (s.deliver).headEnabled = s.headEnabled
      ∧ (s.deliver).settings = s.settings
      ∧ (s.deliver).map = s.map
      ∧ (s.deliver).drift = s.drift
      ∧ (s.deliver).claims = s.claims
      ∧ (s.deliver).track = s.track
      ∧ (s.deliver).dispenser = s.dispenser
      ∧ (s.deliver).placement = s.placement
      ∧ (s.deliver).capture = s.capture
      ∧ (s.deliver).report = s.report
      ∧ (s.deliver).spoilLatch = s.spoilLatch
      ∧ (s.deliver).arbiter.waiting = s.arbiter.waiting := by
  unfold State.deliver
  repeat' split
  all_goals simp

@[simp] theorem grantUnreachable_frame (s : State) (e : Waiter) (w : WaferInfo) (d : DieRecord) :
    (s.grantUnreachable e w d).pending = s.pending
      ∧ (s.grantUnreachable e w d).choices = s.choices
      ∧ (s.grantUnreachable e w d).supplyLow = s.supplyLow
      ∧ (s.grantUnreachable e w d).resetLow = s.resetLow
      ∧ (s.grantUnreachable e w d).mode = s.mode
      ∧ (s.grantUnreachable e w d).lineTime = s.lineTime
      ∧ (s.grantUnreachable e w d).reports = s.reports
      ∧ (s.grantUnreachable e w d).headEnabled = s.headEnabled
      ∧ (s.grantUnreachable e w d).settings = s.settings
      ∧ (s.grantUnreachable e w d).drift = s.drift
      ∧ (s.grantUnreachable e w d).arbiter = s.arbiter
      ∧ (s.grantUnreachable e w d).track = s.track
      ∧ (s.grantUnreachable e w d).dispenser = s.dispenser
      ∧ (s.grantUnreachable e w d).placement = s.placement
      ∧ (s.grantUnreachable e w d).capture = s.capture
      ∧ (s.grantUnreachable e w d).spoilLatch = s.spoilLatch
      ∧ (s.grantUnreachable e w d).report.log = s.report.log
      ∧ (s.grantUnreachable e w d).report.nextSeq = s.report.nextSeq
      ∧ (s.grantUnreachable e w d).map.phase = s.map.phase
      ∧ (s.grantUnreachable e w d).map.nextIndex = s.map.nextIndex := by
  unfold State.grantUnreachable
  all_goals simp

@[simp] theorem grantReachable_frame (s : State) (e : Waiter) (w : WaferInfo) (d : DieRecord) :
    (s.grantReachable e w d).pending = s.pending
      ∧ (s.grantReachable e w d).choices = s.choices
      ∧ (s.grantReachable e w d).supplyLow = s.supplyLow
      ∧ (s.grantReachable e w d).resetLow = s.resetLow
      ∧ (s.grantReachable e w d).mode = s.mode
      ∧ (s.grantReachable e w d).lineTime = s.lineTime
      ∧ (s.grantReachable e w d).reports = s.reports
      ∧ (s.grantReachable e w d).headEnabled = s.headEnabled
      ∧ (s.grantReachable e w d).settings = s.settings
      ∧ (s.grantReachable e w d).drift = s.drift
      ∧ (s.grantReachable e w d).track = s.track
      ∧ (s.grantReachable e w d).dispenser = s.dispenser
      ∧ (s.grantReachable e w d).placement = s.placement
      ∧ (s.grantReachable e w d).capture = s.capture
      ∧ (s.grantReachable e w d).spoilLatch = s.spoilLatch
      ∧ (s.grantReachable e w d).report.log = s.report.log
      ∧ (s.grantReachable e w d).report.nextSeq = s.report.nextSeq
      ∧ (s.grantReachable e w d).map.phase = s.map.phase
      ∧ (s.grantReachable e w d).map.nextIndex = s.map.nextIndex := by
  unfold State.grantReachable
  all_goals simp

@[simp] theorem grantEntries_frame (s : State) (l : List Waiter) :
    (grantEntries l s).pending = s.pending
      ∧ (grantEntries l s).choices = s.choices
      ∧ (grantEntries l s).supplyLow = s.supplyLow
      ∧ (grantEntries l s).resetLow = s.resetLow
      ∧ (grantEntries l s).mode = s.mode
      ∧ (grantEntries l s).lineTime = s.lineTime
      ∧ (grantEntries l s).reports = s.reports
      ∧ (grantEntries l s).headEnabled = s.headEnabled
      ∧ (grantEntries l s).settings = s.settings
      ∧ (grantEntries l s).drift = s.drift
      ∧ (grantEntries l s).track = s.track
      ∧ (grantEntries l s).dispenser = s.dispenser
      ∧ (grantEntries l s).placement = s.placement
      ∧ (grantEntries l s).capture = s.capture
      ∧ (grantEntries l s).spoilLatch = s.spoilLatch
      ∧ (grantEntries l s).report.log = s.report.log
      ∧ (grantEntries l s).report.nextSeq = s.report.nextSeq
      ∧ (grantEntries l s).map.phase = s.map.phase
      ∧ (grantEntries l s).map.nextIndex = s.map.nextIndex := by
  induction l generalizing s with
  | nil => simp [grantEntries]
  | cons e rest ih =>
    unfold grantEntries
    simp only
    split <;> [simp [ih]; skip]
    split <;> [simp [ih]; skip]
    split <;> simp [ih]

@[simp] theorem applyGrants_frame (s : State) :
    (s.applyGrants).pending = s.pending
      ∧ (s.applyGrants).choices = s.choices
      ∧ (s.applyGrants).supplyLow = s.supplyLow
      ∧ (s.applyGrants).resetLow = s.resetLow
      ∧ (s.applyGrants).mode = s.mode
      ∧ (s.applyGrants).lineTime = s.lineTime
      ∧ (s.applyGrants).reports = s.reports
      ∧ (s.applyGrants).headEnabled = s.headEnabled
      ∧ (s.applyGrants).settings = s.settings
      ∧ (s.applyGrants).drift = s.drift
      ∧ (s.applyGrants).track = s.track
      ∧ (s.applyGrants).dispenser = s.dispenser
      ∧ (s.applyGrants).placement = s.placement
      ∧ (s.applyGrants).capture = s.capture
      ∧ (s.applyGrants).spoilLatch = s.spoilLatch
      ∧ (s.applyGrants).report.log = s.report.log
      ∧ (s.applyGrants).report.nextSeq = s.report.nextSeq
      ∧ (s.applyGrants).map.phase = s.map.phase
      ∧ (s.applyGrants).map.nextIndex = s.map.nextIndex := by
  unfold State.applyGrants
  repeat' split
  all_goals simp

@[simp] theorem stationWakes_frame (s : State) :
    (s.stationWakes).pending = s.pending
      ∧ (s.stationWakes).choices = s.choices
      ∧ (s.stationWakes).supplyLow = s.supplyLow
      ∧ (s.stationWakes).resetLow = s.resetLow
      ∧ (s.stationWakes).mode = s.mode
      ∧ (s.stationWakes).lineTime = s.lineTime
      ∧ (s.stationWakes).reports = s.reports
      ∧ (s.stationWakes).headEnabled = s.headEnabled
      ∧ (s.stationWakes).settings = s.settings
      ∧ (s.stationWakes).drift = s.drift
      ∧ (s.stationWakes).track = s.track
      ∧ (s.stationWakes).dispenser = s.dispenser
      ∧ (s.stationWakes).placement = s.placement
      ∧ (s.stationWakes).capture = s.capture
      ∧ (s.stationWakes).spoilLatch = s.spoilLatch
      ∧ (s.stationWakes).report.log = s.report.log
      ∧ (s.stationWakes).report.nextSeq = s.report.nextSeq
      ∧ (s.stationWakes).map.phase = s.map.phase
      ∧ (s.stationWakes).map.nextIndex = s.map.nextIndex := by
  unfold State.stationWakes
  all_goals simp

@[simp] theorem rejectClaimed_frame (s : State) (h : Head) (die : Nat) (wafer : Word) (st : ClaimState) (cause : DieCause) :
    (s.rejectClaimed h die wafer st cause).pending = s.pending
      ∧ (s.rejectClaimed h die wafer st cause).choices = s.choices
      ∧ (s.rejectClaimed h die wafer st cause).supplyLow = s.supplyLow
      ∧ (s.rejectClaimed h die wafer st cause).resetLow = s.resetLow
      ∧ (s.rejectClaimed h die wafer st cause).mode = s.mode
      ∧ (s.rejectClaimed h die wafer st cause).lineTime = s.lineTime
      ∧ (s.rejectClaimed h die wafer st cause).reports = s.reports
      ∧ (s.rejectClaimed h die wafer st cause).headEnabled = s.headEnabled
      ∧ (s.rejectClaimed h die wafer st cause).settings = s.settings
      ∧ (s.rejectClaimed h die wafer st cause).drift = s.drift
      ∧ (s.rejectClaimed h die wafer st cause).arbiter = s.arbiter
      ∧ (s.rejectClaimed h die wafer st cause).track = s.track
      ∧ (s.rejectClaimed h die wafer st cause).dispenser = s.dispenser
      ∧ (s.rejectClaimed h die wafer st cause).placement = s.placement
      ∧ (s.rejectClaimed h die wafer st cause).capture = s.capture
      ∧ (s.rejectClaimed h die wafer st cause).links = s.links
      ∧ (s.rejectClaimed h die wafer st cause).spoilLatch = s.spoilLatch
      ∧ (s.rejectClaimed h die wafer st cause).report.log = s.report.log
      ∧ (s.rejectClaimed h die wafer st cause).report.nextSeq = s.report.nextSeq
      ∧ (s.rejectClaimed h die wafer st cause).map.phase = s.map.phase
      ∧ (s.rejectClaimed h die wafer st cause).map.nextIndex = s.map.nextIndex := by
  unfold State.rejectClaimed
  all_goals simp

@[simp] theorem returnReserved_frame (s : State) (h : Head) (die : Nat) (wafer : Word) (st : ClaimState) :
    (s.returnReserved h die wafer st).pending = s.pending
      ∧ (s.returnReserved h die wafer st).choices = s.choices
      ∧ (s.returnReserved h die wafer st).supplyLow = s.supplyLow
      ∧ (s.returnReserved h die wafer st).resetLow = s.resetLow
      ∧ (s.returnReserved h die wafer st).mode = s.mode
      ∧ (s.returnReserved h die wafer st).lineTime = s.lineTime
      ∧ (s.returnReserved h die wafer st).reports = s.reports
      ∧ (s.returnReserved h die wafer st).headEnabled = s.headEnabled
      ∧ (s.returnReserved h die wafer st).settings = s.settings
      ∧ (s.returnReserved h die wafer st).drift = s.drift
      ∧ (s.returnReserved h die wafer st).arbiter = s.arbiter
      ∧ (s.returnReserved h die wafer st).track = s.track
      ∧ (s.returnReserved h die wafer st).dispenser = s.dispenser
      ∧ (s.returnReserved h die wafer st).placement = s.placement
      ∧ (s.returnReserved h die wafer st).capture = s.capture
      ∧ (s.returnReserved h die wafer st).links = s.links
      ∧ (s.returnReserved h die wafer st).spoilLatch = s.spoilLatch
      ∧ (s.returnReserved h die wafer st).report.log = s.report.log
      ∧ (s.returnReserved h die wafer st).report.nextSeq = s.report.nextSeq
      ∧ (s.returnReserved h die wafer st).map.phase = s.map.phase
      ∧ (s.returnReserved h die wafer st).map.nextIndex = s.map.nextIndex := by
  unfold State.returnReserved
  all_goals simp

@[simp] theorem setColumn_frame (s : State) (p : Nat) (c : Option Column) :
    (s.setColumn p c).pending = s.pending
      ∧ (s.setColumn p c).choices = s.choices
      ∧ (s.setColumn p c).supplyLow = s.supplyLow
      ∧ (s.setColumn p c).resetLow = s.resetLow
      ∧ (s.setColumn p c).mode = s.mode
      ∧ (s.setColumn p c).lineTime = s.lineTime
      ∧ (s.setColumn p c).reports = s.reports
      ∧ (s.setColumn p c).headEnabled = s.headEnabled
      ∧ (s.setColumn p c).settings = s.settings
      ∧ (s.setColumn p c).map = s.map
      ∧ (s.setColumn p c).drift = s.drift
      ∧ (s.setColumn p c).claims = s.claims
      ∧ (s.setColumn p c).arbiter = s.arbiter
      ∧ (s.setColumn p c).dispenser = s.dispenser
      ∧ (s.setColumn p c).placement = s.placement
      ∧ (s.setColumn p c).capture = s.capture
      ∧ (s.setColumn p c).report = s.report
      ∧ (s.setColumn p c).links = s.links
      ∧ (s.setColumn p c).spoilLatch = s.spoilLatch := by
  unfold State.setColumn
  all_goals simp

@[simp] theorem setSite_frame (s : State) (p row : Nat) (x : Site) :
    (s.setSite p row x).pending = s.pending
      ∧ (s.setSite p row x).choices = s.choices
      ∧ (s.setSite p row x).supplyLow = s.supplyLow
      ∧ (s.setSite p row x).resetLow = s.resetLow
      ∧ (s.setSite p row x).mode = s.mode
      ∧ (s.setSite p row x).lineTime = s.lineTime
      ∧ (s.setSite p row x).reports = s.reports
      ∧ (s.setSite p row x).headEnabled = s.headEnabled
      ∧ (s.setSite p row x).settings = s.settings
      ∧ (s.setSite p row x).map = s.map
      ∧ (s.setSite p row x).drift = s.drift
      ∧ (s.setSite p row x).claims = s.claims
      ∧ (s.setSite p row x).arbiter = s.arbiter
      ∧ (s.setSite p row x).dispenser = s.dispenser
      ∧ (s.setSite p row x).placement = s.placement
      ∧ (s.setSite p row x).capture = s.capture
      ∧ (s.setSite p row x).report = s.report
      ∧ (s.setSite p row x).links = s.links
      ∧ (s.setSite p row x).spoilLatch = s.spoilLatch := by
  unfold State.setSite
  repeat' split
  all_goals simp

@[simp] theorem dropWet_frame (s : State) :
    (s.dropWet).pending = s.pending
      ∧ (s.dropWet).choices = s.choices
      ∧ (s.dropWet).supplyLow = s.supplyLow
      ∧ (s.dropWet).resetLow = s.resetLow
      ∧ (s.dropWet).mode = s.mode
      ∧ (s.dropWet).lineTime = s.lineTime
      ∧ (s.dropWet).reports = s.reports
      ∧ (s.dropWet).headEnabled = s.headEnabled
      ∧ (s.dropWet).settings = s.settings
      ∧ (s.dropWet).map = s.map
      ∧ (s.dropWet).drift = s.drift
      ∧ (s.dropWet).claims = s.claims
      ∧ (s.dropWet).arbiter = s.arbiter
      ∧ (s.dropWet).track = s.track
      ∧ (s.dropWet).placement = s.placement
      ∧ (s.dropWet).capture = s.capture
      ∧ (s.dropWet).report = s.report
      ∧ (s.dropWet).links = s.links
      ∧ (s.dropWet).spoilLatch = s.spoilLatch
      ∧ (s.dropWet).dispenser.site = s.dispenser.site
      ∧ (s.dropWet).dispenser.hold = s.dispenser.hold := by
  unfold State.dropWet
  all_goals simp

@[simp] theorem drainTest_frame (s : State) :
    (s.drainTest).pending = s.pending
      ∧ (s.drainTest).choices = s.choices
      ∧ (s.drainTest).supplyLow = s.supplyLow
      ∧ (s.drainTest).resetLow = s.resetLow
      ∧ (s.drainTest).mode = s.mode
      ∧ (s.drainTest).lineTime = s.lineTime
      ∧ (s.drainTest).reports = s.reports
      ∧ (s.drainTest).headEnabled = s.headEnabled
      ∧ (s.drainTest).settings = s.settings
      ∧ (s.drainTest).map = s.map
      ∧ (s.drainTest).drift = s.drift
      ∧ (s.drainTest).claims = s.claims
      ∧ (s.drainTest).arbiter = s.arbiter
      ∧ (s.drainTest).dispenser = s.dispenser
      ∧ (s.drainTest).placement = s.placement
      ∧ (s.drainTest).capture = s.capture
      ∧ (s.drainTest).links = s.links
      ∧ (s.drainTest).spoilLatch = s.spoilLatch
      ∧ (s.drainTest).report.log = s.report.log
      ∧ (s.drainTest).report.nextSeq = s.report.nextSeq := by
  unfold State.drainTest
  repeat' split
  all_goals simp

@[simp] theorem removeColumn_frame (s : State) (p : Nat) :
    (s.removeColumn p).pending = s.pending
      ∧ (s.removeColumn p).choices = s.choices
      ∧ (s.removeColumn p).supplyLow = s.supplyLow
      ∧ (s.removeColumn p).resetLow = s.resetLow
      ∧ (s.removeColumn p).mode = s.mode
      ∧ (s.removeColumn p).lineTime = s.lineTime
      ∧ (s.removeColumn p).reports = s.reports
      ∧ (s.removeColumn p).headEnabled = s.headEnabled
      ∧ (s.removeColumn p).settings = s.settings
      ∧ (s.removeColumn p).map = s.map
      ∧ (s.removeColumn p).drift = s.drift
      ∧ (s.removeColumn p).claims = s.claims
      ∧ (s.removeColumn p).arbiter = s.arbiter
      ∧ (s.removeColumn p).placement = s.placement
      ∧ (s.removeColumn p).capture = s.capture
      ∧ (s.removeColumn p).links = s.links
      ∧ (s.removeColumn p).spoilLatch = s.spoilLatch
      ∧ (s.removeColumn p).report.log = s.report.log
      ∧ (s.removeColumn p).report.nextSeq = s.report.nextSeq
      ∧ (s.removeColumn p).dispenser.site = s.dispenser.site
      ∧ (s.removeColumn p).dispenser.hold = s.dispenser.hold := by
  unfold State.removeColumn
  repeat' split
  all_goals simp

@[simp] theorem removeColumns_frame (s : State) (ps : List Nat) :
    (s.removeColumns ps).pending = s.pending
      ∧ (s.removeColumns ps).choices = s.choices
      ∧ (s.removeColumns ps).supplyLow = s.supplyLow
      ∧ (s.removeColumns ps).resetLow = s.resetLow
      ∧ (s.removeColumns ps).mode = s.mode
      ∧ (s.removeColumns ps).lineTime = s.lineTime
      ∧ (s.removeColumns ps).reports = s.reports
      ∧ (s.removeColumns ps).headEnabled = s.headEnabled
      ∧ (s.removeColumns ps).settings = s.settings
      ∧ (s.removeColumns ps).map = s.map
      ∧ (s.removeColumns ps).drift = s.drift
      ∧ (s.removeColumns ps).claims = s.claims
      ∧ (s.removeColumns ps).arbiter = s.arbiter
      ∧ (s.removeColumns ps).placement = s.placement
      ∧ (s.removeColumns ps).capture = s.capture
      ∧ (s.removeColumns ps).links = s.links
      ∧ (s.removeColumns ps).spoilLatch = s.spoilLatch
      ∧ (s.removeColumns ps).report.log = s.report.log
      ∧ (s.removeColumns ps).report.nextSeq = s.report.nextSeq
      ∧ (s.removeColumns ps).dispenser.site = s.dispenser.site
      ∧ (s.removeColumns ps).dispenser.hold = s.dispenser.hold := by
  unfold State.removeColumns
  induction ps generalizing s with
  | nil => simp
  | cons p rest ih => simp [ih]

@[simp] theorem moveEntry_frame (s : State) (n : Nat) :
    (s.moveEntry n).pending = s.pending
      ∧ (s.moveEntry n).choices = s.choices
      ∧ (s.moveEntry n).supplyLow = s.supplyLow
      ∧ (s.moveEntry n).resetLow = s.resetLow
      ∧ (s.moveEntry n).mode = s.mode
      ∧ (s.moveEntry n).lineTime = s.lineTime
      ∧ (s.moveEntry n).reports = s.reports
      ∧ (s.moveEntry n).headEnabled = s.headEnabled
      ∧ (s.moveEntry n).settings = s.settings
      ∧ (s.moveEntry n).map = s.map
      ∧ (s.moveEntry n).drift = s.drift
      ∧ (s.moveEntry n).claims = s.claims
      ∧ (s.moveEntry n).arbiter = s.arbiter
      ∧ (s.moveEntry n).dispenser = s.dispenser
      ∧ (s.moveEntry n).placement = s.placement
      ∧ (s.moveEntry n).capture = s.capture
      ∧ (s.moveEntry n).report = s.report
      ∧ (s.moveEntry n).links = s.links
      ∧ (s.moveEntry n).spoilLatch = s.spoilLatch := by
  unfold State.moveEntry
  all_goals simp

@[simp] theorem fillPosition_frame (s : State) (p : Nat) :
    (s.fillPosition p).pending = s.pending
      ∧ (s.fillPosition p).choices = s.choices
      ∧ (s.fillPosition p).supplyLow = s.supplyLow
      ∧ (s.fillPosition p).resetLow = s.resetLow
      ∧ (s.fillPosition p).mode = s.mode
      ∧ (s.fillPosition p).lineTime = s.lineTime
      ∧ (s.fillPosition p).reports = s.reports
      ∧ (s.fillPosition p).headEnabled = s.headEnabled
      ∧ (s.fillPosition p).settings = s.settings
      ∧ (s.fillPosition p).map = s.map
      ∧ (s.fillPosition p).drift = s.drift
      ∧ (s.fillPosition p).claims = s.claims
      ∧ (s.fillPosition p).arbiter = s.arbiter
      ∧ (s.fillPosition p).dispenser = s.dispenser
      ∧ (s.fillPosition p).placement = s.placement
      ∧ (s.fillPosition p).capture = s.capture
      ∧ (s.fillPosition p).report = s.report
      ∧ (s.fillPosition p).links = s.links
      ∧ (s.fillPosition p).spoilLatch = s.spoilLatch := by
  unfold State.fillPosition
  repeat' split
  all_goals simp

@[simp] theorem fillPositions_frame (s : State) (n : Nat) :
    (s.fillPositions n).pending = s.pending
      ∧ (s.fillPositions n).choices = s.choices
      ∧ (s.fillPositions n).supplyLow = s.supplyLow
      ∧ (s.fillPositions n).resetLow = s.resetLow
      ∧ (s.fillPositions n).mode = s.mode
      ∧ (s.fillPositions n).lineTime = s.lineTime
      ∧ (s.fillPositions n).reports = s.reports
      ∧ (s.fillPositions n).headEnabled = s.headEnabled
      ∧ (s.fillPositions n).settings = s.settings
      ∧ (s.fillPositions n).map = s.map
      ∧ (s.fillPositions n).drift = s.drift
      ∧ (s.fillPositions n).claims = s.claims
      ∧ (s.fillPositions n).arbiter = s.arbiter
      ∧ (s.fillPositions n).dispenser = s.dispenser
      ∧ (s.fillPositions n).placement = s.placement
      ∧ (s.fillPositions n).capture = s.capture
      ∧ (s.fillPositions n).report = s.report
      ∧ (s.fillPositions n).links = s.links
      ∧ (s.fillPositions n).spoilLatch = s.spoilLatch := by
  unfold State.fillPositions
  induction (List.range n).reverse generalizing s with
  | nil => simp
  | cons p rest ih => simp [ih]

@[simp] theorem handOut_frame (s : State) (p row : Nat) :
    (s.handOut p row).2.pending = s.pending
      ∧ (s.handOut p row).2.choices = s.choices
      ∧ (s.handOut p row).2.supplyLow = s.supplyLow
      ∧ (s.handOut p row).2.resetLow = s.resetLow
      ∧ (s.handOut p row).2.mode = s.mode
      ∧ (s.handOut p row).2.lineTime = s.lineTime
      ∧ (s.handOut p row).2.reports = s.reports
      ∧ (s.handOut p row).2.headEnabled = s.headEnabled
      ∧ (s.handOut p row).2.settings = s.settings
      ∧ (s.handOut p row).2.map = s.map
      ∧ (s.handOut p row).2.drift = s.drift
      ∧ (s.handOut p row).2.claims = s.claims
      ∧ (s.handOut p row).2.arbiter = s.arbiter
      ∧ (s.handOut p row).2.placement = s.placement
      ∧ (s.handOut p row).2.capture = s.capture
      ∧ (s.handOut p row).2.report = s.report
      ∧ (s.handOut p row).2.links = s.links
      ∧ (s.handOut p row).2.spoilLatch = s.spoilLatch := by
  unfold State.handOut
  repeat' split
  all_goals simp

@[simp] theorem serveNextSite_frame (s : State) :
    (s.serveNextSite).pending = s.pending
      ∧ (s.serveNextSite).choices = s.choices
      ∧ (s.serveNextSite).supplyLow = s.supplyLow
      ∧ (s.serveNextSite).resetLow = s.resetLow
      ∧ (s.serveNextSite).mode = s.mode
      ∧ (s.serveNextSite).lineTime = s.lineTime
      ∧ (s.serveNextSite).reports = s.reports
      ∧ (s.serveNextSite).headEnabled = s.headEnabled
      ∧ (s.serveNextSite).settings = s.settings
      ∧ (s.serveNextSite).map = s.map
      ∧ (s.serveNextSite).drift = s.drift
      ∧ (s.serveNextSite).claims = s.claims
      ∧ (s.serveNextSite).arbiter = s.arbiter
      ∧ (s.serveNextSite).placement = s.placement
      ∧ (s.serveNextSite).capture = s.capture
      ∧ (s.serveNextSite).report = s.report
      ∧ (s.serveNextSite).spoilLatch = s.spoilLatch := by
  unfold State.serveNextSite
  repeat' split
  all_goals simp

@[simp] theorem endDispense_frame (s : State) :
    (s.endDispense).pending = s.pending
      ∧ (s.endDispense).choices = s.choices
      ∧ (s.endDispense).supplyLow = s.supplyLow
      ∧ (s.endDispense).resetLow = s.resetLow
      ∧ (s.endDispense).mode = s.mode
      ∧ (s.endDispense).lineTime = s.lineTime
      ∧ (s.endDispense).reports = s.reports
      ∧ (s.endDispense).headEnabled = s.headEnabled
      ∧ (s.endDispense).settings = s.settings
      ∧ (s.endDispense).map = s.map
      ∧ (s.endDispense).drift = s.drift
      ∧ (s.endDispense).claims = s.claims
      ∧ (s.endDispense).arbiter = s.arbiter
      ∧ (s.endDispense).track = s.track
      ∧ (s.endDispense).placement = s.placement
      ∧ (s.endDispense).capture = s.capture
      ∧ (s.endDispense).report = s.report
      ∧ (s.endDispense).links = s.links
      ∧ (s.endDispense).spoilLatch = s.spoilLatch
      ∧ (s.endDispense).dispenser.wet = s.dispenser.wet := by
  unfold State.endDispense
  all_goals simp

@[simp] theorem spoil_frame (s : State) (strip : Word) (column row p : Nat) (reason : SpoilReason) (st : Option Stamp) :
    (s.spoil strip column row p reason st).pending = s.pending
      ∧ (s.spoil strip column row p reason st).choices = s.choices
      ∧ (s.spoil strip column row p reason st).supplyLow = s.supplyLow
      ∧ (s.spoil strip column row p reason st).resetLow = s.resetLow
      ∧ (s.spoil strip column row p reason st).mode = s.mode
      ∧ (s.spoil strip column row p reason st).lineTime = s.lineTime
      ∧ (s.spoil strip column row p reason st).reports = s.reports
      ∧ (s.spoil strip column row p reason st).headEnabled = s.headEnabled
      ∧ (s.spoil strip column row p reason st).settings = s.settings
      ∧ (s.spoil strip column row p reason st).map = s.map
      ∧ (s.spoil strip column row p reason st).drift = s.drift
      ∧ (s.spoil strip column row p reason st).claims = s.claims
      ∧ (s.spoil strip column row p reason st).arbiter = s.arbiter
      ∧ (s.spoil strip column row p reason st).placement = s.placement
      ∧ (s.spoil strip column row p reason st).capture = s.capture
      ∧ (s.spoil strip column row p reason st).links = s.links
      ∧ (s.spoil strip column row p reason st).report.log = s.report.log
      ∧ (s.spoil strip column row p reason st).report.nextSeq = s.report.nextSeq
      ∧ (s.spoil strip column row p reason st).dispenser.site = s.dispenser.site
      ∧ (s.spoil strip column row p reason st).dispenser.hold = s.dispenser.hold := by
  unfold State.spoil
  repeat' split
  all_goals simp

@[simp] theorem consume_frame (s : State) (i : CaptureInput) (m : EdgeMatch) :
    (s.consume i m).pending = s.pending
      ∧ (s.consume i m).choices = s.choices
      ∧ (s.consume i m).supplyLow = s.supplyLow
      ∧ (s.consume i m).resetLow = s.resetLow
      ∧ (s.consume i m).mode = s.mode
      ∧ (s.consume i m).lineTime = s.lineTime
      ∧ (s.consume i m).reports = s.reports
      ∧ (s.consume i m).headEnabled = s.headEnabled
      ∧ (s.consume i m).settings = s.settings
      ∧ (s.consume i m).map = s.map
      ∧ (s.consume i m).drift = s.drift
      ∧ (s.consume i m).claims = s.claims
      ∧ (s.consume i m).arbiter = s.arbiter
      ∧ (s.consume i m).track = s.track
      ∧ (s.consume i m).dispenser = s.dispenser
      ∧ (s.consume i m).placement = s.placement
      ∧ (s.consume i m).report = s.report
      ∧ (s.consume i m).links = s.links
      ∧ (s.consume i m).spoilLatch = s.spoilLatch := by
  unfold State.consume
  all_goals simp

@[simp] theorem emptyCapture_frame (s : State) (i : CaptureInput) :
    (s.emptyCapture i).pending = s.pending
      ∧ (s.emptyCapture i).choices = s.choices
      ∧ (s.emptyCapture i).supplyLow = s.supplyLow
      ∧ (s.emptyCapture i).resetLow = s.resetLow
      ∧ (s.emptyCapture i).mode = s.mode
      ∧ (s.emptyCapture i).lineTime = s.lineTime
      ∧ (s.emptyCapture i).reports = s.reports
      ∧ (s.emptyCapture i).headEnabled = s.headEnabled
      ∧ (s.emptyCapture i).settings = s.settings
      ∧ (s.emptyCapture i).map = s.map
      ∧ (s.emptyCapture i).drift = s.drift
      ∧ (s.emptyCapture i).claims = s.claims
      ∧ (s.emptyCapture i).arbiter = s.arbiter
      ∧ (s.emptyCapture i).track = s.track
      ∧ (s.emptyCapture i).dispenser = s.dispenser
      ∧ (s.emptyCapture i).placement = s.placement
      ∧ (s.emptyCapture i).report = s.report
      ∧ (s.emptyCapture i).links = s.links
      ∧ (s.emptyCapture i).spoilLatch = s.spoilLatch := by
  unfold State.emptyCapture
  all_goals simp

@[simp] theorem removePlacer_frame (s : State) (h : Head) :
    (s.removePlacer h).pending = s.pending
      ∧ (s.removePlacer h).choices = s.choices
      ∧ (s.removePlacer h).supplyLow = s.supplyLow
      ∧ (s.removePlacer h).resetLow = s.resetLow
      ∧ (s.removePlacer h).mode = s.mode
      ∧ (s.removePlacer h).lineTime = s.lineTime
      ∧ (s.removePlacer h).reports = s.reports
      ∧ (s.removePlacer h).headEnabled = s.headEnabled
      ∧ (s.removePlacer h).settings = s.settings
      ∧ (s.removePlacer h).map = s.map
      ∧ (s.removePlacer h).drift = s.drift
      ∧ (s.removePlacer h).claims = s.claims
      ∧ (s.removePlacer h).arbiter = s.arbiter
      ∧ (s.removePlacer h).track = s.track
      ∧ (s.removePlacer h).dispenser = s.dispenser
      ∧ (s.removePlacer h).capture = s.capture
      ∧ (s.removePlacer h).report = s.report
      ∧ (s.removePlacer h).links = s.links
      ∧ (s.removePlacer h).spoilLatch = s.spoilLatch
      ∧ (s.removePlacer h).placement.assigned = s.placement.assigned
      ∧ (s.removePlacer h).placement.hold = s.placement.hold := by
  unfold State.removePlacer
  all_goals simp

@[simp] theorem assign_frame (s : State) (e : Placer) (c : Candidate) :
    (s.assign e c).pending = s.pending
      ∧ (s.assign e c).choices = s.choices
      ∧ (s.assign e c).supplyLow = s.supplyLow
      ∧ (s.assign e c).resetLow = s.resetLow
      ∧ (s.assign e c).mode = s.mode
      ∧ (s.assign e c).lineTime = s.lineTime
      ∧ (s.assign e c).reports = s.reports
      ∧ (s.assign e c).headEnabled = s.headEnabled
      ∧ (s.assign e c).settings = s.settings
      ∧ (s.assign e c).map = s.map
      ∧ (s.assign e c).drift = s.drift
      ∧ (s.assign e c).claims = s.claims
      ∧ (s.assign e c).arbiter = s.arbiter
      ∧ (s.assign e c).dispenser = s.dispenser
      ∧ (s.assign e c).capture = s.capture
      ∧ (s.assign e c).report = s.report
      ∧ (s.assign e c).spoilLatch = s.spoilLatch := by
  unfold State.assign
  repeat' split
  all_goals simp

@[simp] theorem servePlacerList_frame (s : State) (l : List Placer) :
    (servePlacerList l s).pending = s.pending
      ∧ (servePlacerList l s).choices = s.choices
      ∧ (servePlacerList l s).supplyLow = s.supplyLow
      ∧ (servePlacerList l s).resetLow = s.resetLow
      ∧ (servePlacerList l s).mode = s.mode
      ∧ (servePlacerList l s).lineTime = s.lineTime
      ∧ (servePlacerList l s).reports = s.reports
      ∧ (servePlacerList l s).headEnabled = s.headEnabled
      ∧ (servePlacerList l s).settings = s.settings
      ∧ (servePlacerList l s).map = s.map
      ∧ (servePlacerList l s).drift = s.drift
      ∧ (servePlacerList l s).claims = s.claims
      ∧ (servePlacerList l s).arbiter = s.arbiter
      ∧ (servePlacerList l s).dispenser = s.dispenser
      ∧ (servePlacerList l s).capture = s.capture
      ∧ (servePlacerList l s).report = s.report
      ∧ (servePlacerList l s).spoilLatch = s.spoilLatch := by
  induction l generalizing s with
  | nil => simp [servePlacerList]
  | cons e rest ih =>
    unfold servePlacerList
    split <;> simp [ih]

@[simp] theorem servePlacers_frame (s : State) :
    (s.servePlacers).pending = s.pending
      ∧ (s.servePlacers).choices = s.choices
      ∧ (s.servePlacers).supplyLow = s.supplyLow
      ∧ (s.servePlacers).resetLow = s.resetLow
      ∧ (s.servePlacers).mode = s.mode
      ∧ (s.servePlacers).lineTime = s.lineTime
      ∧ (s.servePlacers).reports = s.reports
      ∧ (s.servePlacers).headEnabled = s.headEnabled
      ∧ (s.servePlacers).settings = s.settings
      ∧ (s.servePlacers).map = s.map
      ∧ (s.servePlacers).drift = s.drift
      ∧ (s.servePlacers).claims = s.claims
      ∧ (s.servePlacers).arbiter = s.arbiter
      ∧ (s.servePlacers).dispenser = s.dispenser
      ∧ (s.servePlacers).capture = s.capture
      ∧ (s.servePlacers).report = s.report
      ∧ (s.servePlacers).spoilLatch = s.spoilLatch := by
  unfold State.servePlacers
  repeat' split
  all_goals simp

@[simp] theorem siteWakes_frame (s : State) :
    (s.siteWakes).pending = s.pending
      ∧ (s.siteWakes).choices = s.choices
      ∧ (s.siteWakes).supplyLow = s.supplyLow
      ∧ (s.siteWakes).resetLow = s.resetLow
      ∧ (s.siteWakes).mode = s.mode
      ∧ (s.siteWakes).lineTime = s.lineTime
      ∧ (s.siteWakes).reports = s.reports
      ∧ (s.siteWakes).headEnabled = s.headEnabled
      ∧ (s.siteWakes).settings = s.settings
      ∧ (s.siteWakes).map = s.map
      ∧ (s.siteWakes).drift = s.drift
      ∧ (s.siteWakes).claims = s.claims
      ∧ (s.siteWakes).arbiter = s.arbiter
      ∧ (s.siteWakes).capture = s.capture
      ∧ (s.siteWakes).spoilLatch = s.spoilLatch
      ∧ (s.siteWakes).report.log = s.report.log
      ∧ (s.siteWakes).report.nextSeq = s.report.nextSeq := by
  unfold State.siteWakes
  all_goals simp

@[simp] theorem endAssignment_frame (s : State) (h : Head) :
    (s.endAssignment h).pending = s.pending
      ∧ (s.endAssignment h).choices = s.choices
      ∧ (s.endAssignment h).supplyLow = s.supplyLow
      ∧ (s.endAssignment h).resetLow = s.resetLow
      ∧ (s.endAssignment h).mode = s.mode
      ∧ (s.endAssignment h).lineTime = s.lineTime
      ∧ (s.endAssignment h).reports = s.reports
      ∧ (s.endAssignment h).headEnabled = s.headEnabled
      ∧ (s.endAssignment h).settings = s.settings
      ∧ (s.endAssignment h).map = s.map
      ∧ (s.endAssignment h).drift = s.drift
      ∧ (s.endAssignment h).claims = s.claims
      ∧ (s.endAssignment h).arbiter = s.arbiter
      ∧ (s.endAssignment h).track = s.track
      ∧ (s.endAssignment h).dispenser = s.dispenser
      ∧ (s.endAssignment h).capture = s.capture
      ∧ (s.endAssignment h).report = s.report
      ∧ (s.endAssignment h).links = s.links
      ∧ (s.endAssignment h).spoilLatch = s.spoilLatch
      ∧ (s.endAssignment h).placement.queue = s.placement.queue := by
  unfold State.endAssignment
  all_goals simp

@[simp] theorem releaseSite_frame (s : State) (h : Head) :
    (s.releaseSite h).pending = s.pending
      ∧ (s.releaseSite h).choices = s.choices
      ∧ (s.releaseSite h).supplyLow = s.supplyLow
      ∧ (s.releaseSite h).resetLow = s.resetLow
      ∧ (s.releaseSite h).mode = s.mode
      ∧ (s.releaseSite h).lineTime = s.lineTime
      ∧ (s.releaseSite h).reports = s.reports
      ∧ (s.releaseSite h).headEnabled = s.headEnabled
      ∧ (s.releaseSite h).settings = s.settings
      ∧ (s.releaseSite h).map = s.map
      ∧ (s.releaseSite h).drift = s.drift
      ∧ (s.releaseSite h).claims = s.claims
      ∧ (s.releaseSite h).arbiter = s.arbiter
      ∧ (s.releaseSite h).capture = s.capture
      ∧ (s.releaseSite h).links = s.links
      ∧ (s.releaseSite h).report.log = s.report.log
      ∧ (s.releaseSite h).report.nextSeq = s.report.nextSeq
      ∧ (s.releaseSite h).placement.queue = s.placement.queue := by
  unfold State.releaseSite
  repeat' split
  all_goals simp

@[simp] theorem binSetWritten_frame (s : State) :
    (s.binSetWritten).pending = s.pending
      ∧ (s.binSetWritten).choices = s.choices
      ∧ (s.binSetWritten).supplyLow = s.supplyLow
      ∧ (s.binSetWritten).resetLow = s.resetLow
      ∧ (s.binSetWritten).mode = s.mode
      ∧ (s.binSetWritten).lineTime = s.lineTime
      ∧ (s.binSetWritten).reports = s.reports
      ∧ (s.binSetWritten).headEnabled = s.headEnabled
      ∧ (s.binSetWritten).settings = s.settings
      ∧ (s.binSetWritten).drift = s.drift
      ∧ (s.binSetWritten).claims = s.claims
      ∧ (s.binSetWritten).arbiter = s.arbiter
      ∧ (s.binSetWritten).track = s.track
      ∧ (s.binSetWritten).dispenser = s.dispenser
      ∧ (s.binSetWritten).placement = s.placement
      ∧ (s.binSetWritten).capture = s.capture
      ∧ (s.binSetWritten).links = s.links
      ∧ (s.binSetWritten).spoilLatch = s.spoilLatch
      ∧ (s.binSetWritten).report.log = s.report.log
      ∧ (s.binSetWritten).report.nextSeq = s.report.nextSeq
      ∧ (s.binSetWritten).map.phase = s.map.phase
      ∧ (s.binSetWritten).map.nextIndex = s.map.nextIndex := by
  unfold State.binSetWritten
  cases h : s.map.phase <;> simp [h]

@[simp] theorem settingWritten_frame (s : State) (id : Nat) :
    (s.settingWritten id).pending = s.pending
      ∧ (s.settingWritten id).choices = s.choices
      ∧ (s.settingWritten id).supplyLow = s.supplyLow
      ∧ (s.settingWritten id).resetLow = s.resetLow
      ∧ (s.settingWritten id).mode = s.mode
      ∧ (s.settingWritten id).lineTime = s.lineTime
      ∧ (s.settingWritten id).reports = s.reports
      ∧ (s.settingWritten id).headEnabled = s.headEnabled
      ∧ (s.settingWritten id).settings = s.settings
      ∧ (s.settingWritten id).claims = s.claims
      ∧ (s.settingWritten id).arbiter = s.arbiter
      ∧ (s.settingWritten id).dispenser = s.dispenser
      ∧ (s.settingWritten id).capture = s.capture
      ∧ (s.settingWritten id).spoilLatch = s.spoilLatch
      ∧ (s.settingWritten id).report.log = s.report.log
      ∧ (s.settingWritten id).report.nextSeq = s.report.nextSeq
      ∧ (s.settingWritten id).map.phase = s.map.phase
      ∧ (s.settingWritten id).map.nextIndex = s.map.nextIndex := by
  unfold State.settingWritten
  repeat' split
  all_goals simp

@[simp] theorem appendRecord_frame (s : State) (b : BondRecord) :
    (s.appendRecord b).pending = s.pending
      ∧ (s.appendRecord b).choices = s.choices
      ∧ (s.appendRecord b).supplyLow = s.supplyLow
      ∧ (s.appendRecord b).resetLow = s.resetLow
      ∧ (s.appendRecord b).mode = s.mode
      ∧ (s.appendRecord b).lineTime = s.lineTime
      ∧ (s.appendRecord b).reports = s.reports
      ∧ (s.appendRecord b).headEnabled = s.headEnabled
      ∧ (s.appendRecord b).settings = s.settings
      ∧ (s.appendRecord b).map = s.map
      ∧ (s.appendRecord b).drift = s.drift
      ∧ (s.appendRecord b).claims = s.claims
      ∧ (s.appendRecord b).arbiter = s.arbiter
      ∧ (s.appendRecord b).track = s.track
      ∧ (s.appendRecord b).dispenser = s.dispenser
      ∧ (s.appendRecord b).placement = s.placement
      ∧ (s.appendRecord b).capture = s.capture
      ∧ (s.appendRecord b).links = s.links
      ∧ (s.appendRecord b).spoilLatch = s.spoilLatch
      ∧ (s.appendRecord b).report.notices = s.report.notices
      ∧ (s.appendRecord b).report.dropped = s.report.dropped := by
  unfold State.appendRecord
  all_goals simp

@[simp] theorem removeNotices_frame (s : State) (k : Nat) :
    (s.removeNotices k).pending = s.pending
      ∧ (s.removeNotices k).choices = s.choices
      ∧ (s.removeNotices k).supplyLow = s.supplyLow
      ∧ (s.removeNotices k).resetLow = s.resetLow
      ∧ (s.removeNotices k).mode = s.mode
      ∧ (s.removeNotices k).lineTime = s.lineTime
      ∧ (s.removeNotices k).reports = s.reports
      ∧ (s.removeNotices k).headEnabled = s.headEnabled
      ∧ (s.removeNotices k).settings = s.settings
      ∧ (s.removeNotices k).map = s.map
      ∧ (s.removeNotices k).drift = s.drift
      ∧ (s.removeNotices k).claims = s.claims
      ∧ (s.removeNotices k).arbiter = s.arbiter
      ∧ (s.removeNotices k).track = s.track
      ∧ (s.removeNotices k).dispenser = s.dispenser
      ∧ (s.removeNotices k).placement = s.placement
      ∧ (s.removeNotices k).capture = s.capture
      ∧ (s.removeNotices k).links = s.links
      ∧ (s.removeNotices k).spoilLatch = s.spoilLatch
      ∧ (s.removeNotices k).report.log = s.report.log
      ∧ (s.removeNotices k).report.nextSeq = s.report.nextSeq := by
  unfold State.removeNotices
  repeat' split
  all_goals simp

@[simp] theorem removeRecords_frame (s : State) (k : Nat) :
    (s.removeRecords k).pending = s.pending
      ∧ (s.removeRecords k).choices = s.choices
      ∧ (s.removeRecords k).supplyLow = s.supplyLow
      ∧ (s.removeRecords k).resetLow = s.resetLow
      ∧ (s.removeRecords k).mode = s.mode
      ∧ (s.removeRecords k).lineTime = s.lineTime
      ∧ (s.removeRecords k).reports = s.reports
      ∧ (s.removeRecords k).headEnabled = s.headEnabled
      ∧ (s.removeRecords k).settings = s.settings
      ∧ (s.removeRecords k).map = s.map
      ∧ (s.removeRecords k).drift = s.drift
      ∧ (s.removeRecords k).claims = s.claims
      ∧ (s.removeRecords k).arbiter = s.arbiter
      ∧ (s.removeRecords k).track = s.track
      ∧ (s.removeRecords k).dispenser = s.dispenser
      ∧ (s.removeRecords k).placement = s.placement
      ∧ (s.removeRecords k).capture = s.capture
      ∧ (s.removeRecords k).links = s.links
      ∧ (s.removeRecords k).spoilLatch = s.spoilLatch
      ∧ (s.removeRecords k).report.notices = s.report.notices
      ∧ (s.removeRecords k).report.dropped = s.report.dropped
      ∧ (s.removeRecords k).report.nextSeq = s.report.nextSeq := by
  unfold State.removeRecords
  all_goals simp

@[simp] theorem removeWaiter_frame (s : State) (h : Head) :
    (s.removeWaiter h).pending = s.pending
      ∧ (s.removeWaiter h).choices = s.choices
      ∧ (s.removeWaiter h).supplyLow = s.supplyLow
      ∧ (s.removeWaiter h).resetLow = s.resetLow
      ∧ (s.removeWaiter h).mode = s.mode
      ∧ (s.removeWaiter h).lineTime = s.lineTime
      ∧ (s.removeWaiter h).reports = s.reports
      ∧ (s.removeWaiter h).headEnabled = s.headEnabled
      ∧ (s.removeWaiter h).settings = s.settings
      ∧ (s.removeWaiter h).map = s.map
      ∧ (s.removeWaiter h).drift = s.drift
      ∧ (s.removeWaiter h).claims = s.claims
      ∧ (s.removeWaiter h).track = s.track
      ∧ (s.removeWaiter h).dispenser = s.dispenser
      ∧ (s.removeWaiter h).placement = s.placement
      ∧ (s.removeWaiter h).capture = s.capture
      ∧ (s.removeWaiter h).report = s.report
      ∧ (s.removeWaiter h).links = s.links
      ∧ (s.removeWaiter h).spoilLatch = s.spoilLatch
      ∧ (s.removeWaiter h).arbiter.station = s.arbiter.station
      ∧ (s.removeWaiter h).arbiter.presentTimer = s.arbiter.presentTimer
      ∧ (s.removeWaiter h).arbiter.grantTimer = s.arbiter.grantTimer := by
  unfold State.removeWaiter
  all_goals simp

@[simp] theorem disposeClaim_frame (s : State) (h : Head) (c : Claim) :
    (State.disposeClaim h s c).pending = s.pending
      ∧ (State.disposeClaim h s c).choices = s.choices
      ∧ (State.disposeClaim h s c).supplyLow = s.supplyLow
      ∧ (State.disposeClaim h s c).resetLow = s.resetLow
      ∧ (State.disposeClaim h s c).mode = s.mode
      ∧ (State.disposeClaim h s c).lineTime = s.lineTime
      ∧ (State.disposeClaim h s c).reports = s.reports
      ∧ (State.disposeClaim h s c).headEnabled = s.headEnabled
      ∧ (State.disposeClaim h s c).settings = s.settings
      ∧ (State.disposeClaim h s c).drift = s.drift
      ∧ (State.disposeClaim h s c).track = s.track
      ∧ (State.disposeClaim h s c).dispenser = s.dispenser
      ∧ (State.disposeClaim h s c).placement = s.placement
      ∧ (State.disposeClaim h s c).capture = s.capture
      ∧ (State.disposeClaim h s c).links = s.links
      ∧ (State.disposeClaim h s c).spoilLatch = s.spoilLatch
      ∧ (State.disposeClaim h s c).report.log = s.report.log
      ∧ (State.disposeClaim h s c).report.nextSeq = s.report.nextSeq
      ∧ (State.disposeClaim h s c).map.phase = s.map.phase
      ∧ (State.disposeClaim h s c).map.nextIndex = s.map.nextIndex := by
  unfold State.disposeClaim
  split <;> simp

@[simp] theorem disposeClaims_frame (s : State) (h : Head) :
    (s.disposeClaims h).pending = s.pending
      ∧ (s.disposeClaims h).choices = s.choices
      ∧ (s.disposeClaims h).supplyLow = s.supplyLow
      ∧ (s.disposeClaims h).resetLow = s.resetLow
      ∧ (s.disposeClaims h).mode = s.mode
      ∧ (s.disposeClaims h).lineTime = s.lineTime
      ∧ (s.disposeClaims h).reports = s.reports
      ∧ (s.disposeClaims h).headEnabled = s.headEnabled
      ∧ (s.disposeClaims h).settings = s.settings
      ∧ (s.disposeClaims h).drift = s.drift
      ∧ (s.disposeClaims h).track = s.track
      ∧ (s.disposeClaims h).dispenser = s.dispenser
      ∧ (s.disposeClaims h).placement = s.placement
      ∧ (s.disposeClaims h).capture = s.capture
      ∧ (s.disposeClaims h).links = s.links
      ∧ (s.disposeClaims h).spoilLatch = s.spoilLatch
      ∧ (s.disposeClaims h).report.log = s.report.log
      ∧ (s.disposeClaims h).report.nextSeq = s.report.nextSeq
      ∧ (s.disposeClaims h).map.phase = s.map.phase
      ∧ (s.disposeClaims h).map.nextIndex = s.map.nextIndex := by
  have key : ∀ (l : List Claim) (t : State),
      (l.foldl (State.disposeClaim h) t).pending = t.pending
        ∧ (l.foldl (State.disposeClaim h) t).choices = t.choices
        ∧ (l.foldl (State.disposeClaim h) t).supplyLow = t.supplyLow
        ∧ (l.foldl (State.disposeClaim h) t).resetLow = t.resetLow
        ∧ (l.foldl (State.disposeClaim h) t).mode = t.mode
        ∧ (l.foldl (State.disposeClaim h) t).lineTime = t.lineTime
        ∧ (l.foldl (State.disposeClaim h) t).reports = t.reports
        ∧ (l.foldl (State.disposeClaim h) t).headEnabled = t.headEnabled
        ∧ (l.foldl (State.disposeClaim h) t).settings = t.settings
        ∧ (l.foldl (State.disposeClaim h) t).drift = t.drift
        ∧ (l.foldl (State.disposeClaim h) t).track = t.track
        ∧ (l.foldl (State.disposeClaim h) t).dispenser = t.dispenser
        ∧ (l.foldl (State.disposeClaim h) t).placement = t.placement
        ∧ (l.foldl (State.disposeClaim h) t).capture = t.capture
        ∧ (l.foldl (State.disposeClaim h) t).links = t.links
        ∧ (l.foldl (State.disposeClaim h) t).spoilLatch = t.spoilLatch
        ∧ (l.foldl (State.disposeClaim h) t).report.log = t.report.log
        ∧ (l.foldl (State.disposeClaim h) t).report.nextSeq = t.report.nextSeq
        ∧ (l.foldl (State.disposeClaim h) t).map.phase = t.map.phase
        ∧ (l.foldl (State.disposeClaim h) t).map.nextIndex = t.map.nextIndex := by
    intro l
    induction l with
    | nil => intro t; simp
    | cons c rest ih => intro t; simp [ih]
  unfold State.disposeClaims
  simp [key]

@[simp] theorem disposePlacement_frame (s : State) (h : Head) :
    (s.disposePlacement h).pending = s.pending
      ∧ (s.disposePlacement h).choices = s.choices
      ∧ (s.disposePlacement h).supplyLow = s.supplyLow
      ∧ (s.disposePlacement h).resetLow = s.resetLow
      ∧ (s.disposePlacement h).mode = s.mode
      ∧ (s.disposePlacement h).lineTime = s.lineTime
      ∧ (s.disposePlacement h).reports = s.reports
      ∧ (s.disposePlacement h).headEnabled = s.headEnabled
      ∧ (s.disposePlacement h).settings = s.settings
      ∧ (s.disposePlacement h).map = s.map
      ∧ (s.disposePlacement h).drift = s.drift
      ∧ (s.disposePlacement h).claims = s.claims
      ∧ (s.disposePlacement h).arbiter = s.arbiter
      ∧ (s.disposePlacement h).links = s.links
      ∧ (s.disposePlacement h).report.log = s.report.log
      ∧ (s.disposePlacement h).report.nextSeq = s.report.nextSeq := by
  unfold State.disposePlacement
  all_goals simp

@[simp] theorem disposeHead_frame (s : State) (h : Head) :
    (s.disposeHead h).pending = s.pending
      ∧ (s.disposeHead h).choices = s.choices
      ∧ (s.disposeHead h).supplyLow = s.supplyLow
      ∧ (s.disposeHead h).resetLow = s.resetLow
      ∧ (s.disposeHead h).mode = s.mode
      ∧ (s.disposeHead h).lineTime = s.lineTime
      ∧ (s.disposeHead h).reports = s.reports
      ∧ (s.disposeHead h).headEnabled = s.headEnabled
      ∧ (s.disposeHead h).settings = s.settings
      ∧ (s.disposeHead h).drift = s.drift
      ∧ (s.disposeHead h).report.log = s.report.log
      ∧ (s.disposeHead h).report.nextSeq = s.report.nextSeq
      ∧ (s.disposeHead h).map.phase = s.map.phase
      ∧ (s.disposeHead h).map.nextIndex = s.map.nextIndex := by
  unfold State.disposeHead
  all_goals simp

@[simp] theorem disposeTable_frame (s : State) :
    (s.disposeTable).pending = s.pending
      ∧ (s.disposeTable).choices = s.choices
      ∧ (s.disposeTable).supplyLow = s.supplyLow
      ∧ (s.disposeTable).resetLow = s.resetLow
      ∧ (s.disposeTable).mode = s.mode
      ∧ (s.disposeTable).lineTime = s.lineTime
      ∧ (s.disposeTable).reports = s.reports
      ∧ (s.disposeTable).headEnabled = s.headEnabled
      ∧ (s.disposeTable).settings = s.settings
      ∧ (s.disposeTable).drift = s.drift
      ∧ (s.disposeTable).track = s.track
      ∧ (s.disposeTable).dispenser = s.dispenser
      ∧ (s.disposeTable).placement = s.placement
      ∧ (s.disposeTable).capture = s.capture
      ∧ (s.disposeTable).spoilLatch = s.spoilLatch
      ∧ (s.disposeTable).report.log = s.report.log
      ∧ (s.disposeTable).report.nextSeq = s.report.nextSeq
      ∧ (s.disposeTable).map.phase = s.map.phase
      ∧ (s.disposeTable).map.nextIndex = s.map.nextIndex := by
  unfold State.disposeTable
  repeat' split
  all_goals simp

@[simp] theorem disposeDispense_frame (s : State) :
    (s.disposeDispense).pending = s.pending
      ∧ (s.disposeDispense).choices = s.choices
      ∧ (s.disposeDispense).supplyLow = s.supplyLow
      ∧ (s.disposeDispense).resetLow = s.resetLow
      ∧ (s.disposeDispense).mode = s.mode
      ∧ (s.disposeDispense).lineTime = s.lineTime
      ∧ (s.disposeDispense).reports = s.reports
      ∧ (s.disposeDispense).headEnabled = s.headEnabled
      ∧ (s.disposeDispense).settings = s.settings
      ∧ (s.disposeDispense).map = s.map
      ∧ (s.disposeDispense).drift = s.drift
      ∧ (s.disposeDispense).claims = s.claims
      ∧ (s.disposeDispense).arbiter = s.arbiter
      ∧ (s.disposeDispense).report.log = s.report.log
      ∧ (s.disposeDispense).report.nextSeq = s.report.nextSeq := by
  unfold State.disposeDispense
  repeat' split
  all_goals simp

@[simp] theorem dispose_frame (s : State) (p : Port) :
    (s.dispose p).pending = s.pending
      ∧ (s.dispose p).choices = s.choices
      ∧ (s.dispose p).supplyLow = s.supplyLow
      ∧ (s.dispose p).resetLow = s.resetLow
      ∧ (s.dispose p).mode = s.mode
      ∧ (s.dispose p).lineTime = s.lineTime
      ∧ (s.dispose p).reports = s.reports
      ∧ (s.dispose p).headEnabled = s.headEnabled
      ∧ (s.dispose p).settings = s.settings
      ∧ (s.dispose p).drift = s.drift
      ∧ (s.dispose p).report.log = s.report.log
      ∧ (s.dispose p).report.nextSeq = s.report.nextSeq
      ∧ (s.dispose p).map.phase = s.map.phase
      ∧ (s.dispose p).map.nextIndex = s.map.nextIndex := by
  unfold State.dispose
  repeat' split
  all_goals simp

@[simp] theorem enterAbort_frame (s : State) (p : Port) (c : AbortCause) (sticky : Bool) :
    (s.enterAbort p c sticky).pending = s.pending
      ∧ (s.enterAbort p c sticky).choices = s.choices
      ∧ (s.enterAbort p c sticky).supplyLow = s.supplyLow
      ∧ (s.enterAbort p c sticky).resetLow = s.resetLow
      ∧ (s.enterAbort p c sticky).mode = s.mode
      ∧ (s.enterAbort p c sticky).lineTime = s.lineTime
      ∧ (s.enterAbort p c sticky).reports = s.reports
      ∧ (s.enterAbort p c sticky).headEnabled = s.headEnabled
      ∧ (s.enterAbort p c sticky).settings = s.settings
      ∧ (s.enterAbort p c sticky).drift = s.drift
      ∧ (s.enterAbort p c sticky).report.log = s.report.log
      ∧ (s.enterAbort p c sticky).report.nextSeq = s.report.nextSeq
      ∧ (s.enterAbort p c sticky).map.phase = s.map.phase
      ∧ (s.enterAbort p c sticky).map.nextIndex = s.map.nextIndex := by
  unfold State.enterAbort
  all_goals simp

@[simp] theorem causeReaches_frame (s : State) (p : Port) (c : AbortCause) (sticky : Bool) :
    (s.causeReaches p c sticky).pending = s.pending
      ∧ (s.causeReaches p c sticky).choices = s.choices
      ∧ (s.causeReaches p c sticky).supplyLow = s.supplyLow
      ∧ (s.causeReaches p c sticky).resetLow = s.resetLow
      ∧ (s.causeReaches p c sticky).mode = s.mode
      ∧ (s.causeReaches p c sticky).lineTime = s.lineTime
      ∧ (s.causeReaches p c sticky).reports = s.reports
      ∧ (s.causeReaches p c sticky).headEnabled = s.headEnabled
      ∧ (s.causeReaches p c sticky).settings = s.settings
      ∧ (s.causeReaches p c sticky).drift = s.drift
      ∧ (s.causeReaches p c sticky).report.log = s.report.log
      ∧ (s.causeReaches p c sticky).report.nextSeq = s.report.nextSeq
      ∧ (s.causeReaches p c sticky).map.phase = s.map.phase
      ∧ (s.causeReaches p c sticky).map.nextIndex = s.map.nextIndex := by
  unfold State.causeReaches
  repeat' split
  all_goals simp

@[simp] theorem requestHalt_frame (s : State) (p : Port) :
    (s.requestHalt p).pending = s.pending
      ∧ (s.requestHalt p).choices = s.choices
      ∧ (s.requestHalt p).supplyLow = s.supplyLow
      ∧ (s.requestHalt p).resetLow = s.resetLow
      ∧ (s.requestHalt p).mode = s.mode
      ∧ (s.requestHalt p).lineTime = s.lineTime
      ∧ (s.requestHalt p).reports = s.reports
      ∧ (s.requestHalt p).headEnabled = s.headEnabled
      ∧ (s.requestHalt p).settings = s.settings
      ∧ (s.requestHalt p).drift = s.drift
      ∧ (s.requestHalt p).report.log = s.report.log
      ∧ (s.requestHalt p).report.nextSeq = s.report.nextSeq
      ∧ (s.requestHalt p).map.phase = s.map.phase
      ∧ (s.requestHalt p).map.nextIndex = s.map.nextIndex := by
  unfold State.requestHalt
  repeat' split
  all_goals simp

@[simp] theorem unstickHalt_frame (s : State) :
    (s.unstickHalt).pending = s.pending
      ∧ (s.unstickHalt).choices = s.choices
      ∧ (s.unstickHalt).supplyLow = s.supplyLow
      ∧ (s.unstickHalt).resetLow = s.resetLow
      ∧ (s.unstickHalt).mode = s.mode
      ∧ (s.unstickHalt).lineTime = s.lineTime
      ∧ (s.unstickHalt).reports = s.reports
      ∧ (s.unstickHalt).headEnabled = s.headEnabled
      ∧ (s.unstickHalt).settings = s.settings
      ∧ (s.unstickHalt).map = s.map
      ∧ (s.unstickHalt).drift = s.drift
      ∧ (s.unstickHalt).claims = s.claims
      ∧ (s.unstickHalt).arbiter = s.arbiter
      ∧ (s.unstickHalt).track = s.track
      ∧ (s.unstickHalt).dispenser = s.dispenser
      ∧ (s.unstickHalt).placement = s.placement
      ∧ (s.unstickHalt).capture = s.capture
      ∧ (s.unstickHalt).report = s.report
      ∧ (s.unstickHalt).spoilLatch = s.spoilLatch := by
  simp [State.unstickHalt, haltPorts]

@[simp] theorem requestHalts_frame (s : State) :
    (s.requestHalts).pending = s.pending
      ∧ (s.requestHalts).choices = s.choices
      ∧ (s.requestHalts).supplyLow = s.supplyLow
      ∧ (s.requestHalts).resetLow = s.resetLow
      ∧ (s.requestHalts).mode = s.mode
      ∧ (s.requestHalts).lineTime = s.lineTime
      ∧ (s.requestHalts).reports = s.reports
      ∧ (s.requestHalts).headEnabled = s.headEnabled
      ∧ (s.requestHalts).settings = s.settings
      ∧ (s.requestHalts).drift = s.drift
      ∧ (s.requestHalts).report.log = s.report.log
      ∧ (s.requestHalts).report.nextSeq = s.report.nextSeq
      ∧ (s.requestHalts).map.phase = s.map.phase
      ∧ (s.requestHalts).map.nextIndex = s.map.nextIndex := by
  simp [State.requestHalts, haltPorts]

@[simp] theorem leaveRun_frame (s : State) :
    (s.leaveRun).pending = s.pending
      ∧ (s.leaveRun).choices = s.choices
      ∧ (s.leaveRun).supplyLow = s.supplyLow
      ∧ (s.leaveRun).resetLow = s.resetLow
      ∧ (s.leaveRun).mode = s.mode
      ∧ (s.leaveRun).lineTime = s.lineTime
      ∧ (s.leaveRun).headEnabled = s.headEnabled
      ∧ (s.leaveRun).settings = s.settings
      ∧ (s.leaveRun).map = s.map
      ∧ (s.leaveRun).drift = s.drift
      ∧ (s.leaveRun).claims = s.claims
      ∧ (s.leaveRun).arbiter = s.arbiter
      ∧ (s.leaveRun).track = s.track
      ∧ (s.leaveRun).dispenser = s.dispenser
      ∧ (s.leaveRun).placement = s.placement
      ∧ (s.leaveRun).capture = s.capture
      ∧ (s.leaveRun).report = s.report
      ∧ (s.leaveRun).links = s.links
      ∧ (s.leaveRun).spoilLatch = s.spoilLatch := by
  unfold State.leaveRun
  all_goals simp

@[simp] theorem changeMode_frame (s : State) (m : LineMode) :
    (s.changeMode m).pending = s.pending
      ∧ (s.changeMode m).choices = s.choices
      ∧ (s.changeMode m).supplyLow = s.supplyLow
      ∧ (s.changeMode m).resetLow = s.resetLow
      ∧ (s.changeMode m).lineTime = s.lineTime
      ∧ (s.changeMode m).headEnabled = s.headEnabled
      ∧ (s.changeMode m).settings = s.settings
      ∧ (s.changeMode m).map = s.map
      ∧ (s.changeMode m).drift = s.drift
      ∧ (s.changeMode m).claims = s.claims
      ∧ (s.changeMode m).arbiter = s.arbiter
      ∧ (s.changeMode m).track = s.track
      ∧ (s.changeMode m).dispenser = s.dispenser
      ∧ (s.changeMode m).placement = s.placement
      ∧ (s.changeMode m).capture = s.capture
      ∧ (s.changeMode m).report = s.report
      ∧ (s.changeMode m).spoilLatch = s.spoilLatch
      ∧ (s.changeMode m).mode = m := by
  unfold State.changeMode
  cases s.mode <;> simp

@[simp] theorem startWait_frame (s : State) (p : Port) (t : Time) :
    (s.startWait p t).pending = s.pending
      ∧ (s.startWait p t).choices = s.choices
      ∧ (s.startWait p t).supplyLow = s.supplyLow
      ∧ (s.startWait p t).resetLow = s.resetLow
      ∧ (s.startWait p t).mode = s.mode
      ∧ (s.startWait p t).lineTime = s.lineTime
      ∧ (s.startWait p t).reports = s.reports
      ∧ (s.startWait p t).headEnabled = s.headEnabled
      ∧ (s.startWait p t).settings = s.settings
      ∧ (s.startWait p t).map = s.map
      ∧ (s.startWait p t).drift = s.drift
      ∧ (s.startWait p t).claims = s.claims
      ∧ (s.startWait p t).arbiter = s.arbiter
      ∧ (s.startWait p t).track = s.track
      ∧ (s.startWait p t).dispenser = s.dispenser
      ∧ (s.startWait p t).placement = s.placement
      ∧ (s.startWait p t).capture = s.capture
      ∧ (s.startWait p t).report = s.report
      ∧ (s.startWait p t).spoilLatch = s.spoilLatch := by
  unfold State.startWait
  repeat' split
  all_goals simp

@[simp] theorem acceptCancel_frame (s : State) (p : Port) (r : Request) :
    (s.acceptCancel p r).pending = s.pending
      ∧ (s.acceptCancel p r).choices = s.choices
      ∧ (s.acceptCancel p r).supplyLow = s.supplyLow
      ∧ (s.acceptCancel p r).resetLow = s.resetLow
      ∧ (s.acceptCancel p r).mode = s.mode
      ∧ (s.acceptCancel p r).lineTime = s.lineTime
      ∧ (s.acceptCancel p r).reports = s.reports
      ∧ (s.acceptCancel p r).headEnabled = s.headEnabled
      ∧ (s.acceptCancel p r).settings = s.settings
      ∧ (s.acceptCancel p r).map = s.map
      ∧ (s.acceptCancel p r).drift = s.drift
      ∧ (s.acceptCancel p r).claims = s.claims
      ∧ (s.acceptCancel p r).arbiter = s.arbiter
      ∧ (s.acceptCancel p r).track = s.track
      ∧ (s.acceptCancel p r).dispenser = s.dispenser
      ∧ (s.acceptCancel p r).placement = s.placement
      ∧ (s.acceptCancel p r).capture = s.capture
      ∧ (s.acceptCancel p r).report = s.report
      ∧ (s.acceptCancel p r).spoilLatch = s.spoilLatch := by
  unfold State.acceptCancel
  all_goals simp

@[simp] theorem chooseAmong_frame (s : State) {α : Type} (xs : List α) :
    (s.chooseAmong xs).pending = s.pending
      ∧ (s.chooseAmong xs).supplyLow = s.supplyLow
      ∧ (s.chooseAmong xs).resetLow = s.resetLow
      ∧ (s.chooseAmong xs).mode = s.mode
      ∧ (s.chooseAmong xs).lineTime = s.lineTime
      ∧ (s.chooseAmong xs).reports = s.reports
      ∧ (s.chooseAmong xs).headEnabled = s.headEnabled
      ∧ (s.chooseAmong xs).settings = s.settings
      ∧ (s.chooseAmong xs).map = s.map
      ∧ (s.chooseAmong xs).drift = s.drift
      ∧ (s.chooseAmong xs).claims = s.claims
      ∧ (s.chooseAmong xs).arbiter = s.arbiter
      ∧ (s.chooseAmong xs).track = s.track
      ∧ (s.chooseAmong xs).dispenser = s.dispenser
      ∧ (s.chooseAmong xs).placement = s.placement
      ∧ (s.chooseAmong xs).capture = s.capture
      ∧ (s.chooseAmong xs).report = s.report
      ∧ (s.chooseAmong xs).links = s.links
      ∧ (s.chooseAmong xs).spoilLatch = s.spoilLatch := by
  unfold State.chooseAmong
  repeat' split
  all_goals simp

@[simp] theorem answerMode_frame (s : State) (p : Port) (c : Command) :
    (s.answerMode p c).pending = s.pending
      ∧ (s.answerMode p c).choices = s.choices
      ∧ (s.answerMode p c).supplyLow = s.supplyLow
      ∧ (s.answerMode p c).resetLow = s.resetLow
      ∧ (s.answerMode p c).mode = s.mode
      ∧ (s.answerMode p c).lineTime = s.lineTime
      ∧ (s.answerMode p c).reports = s.reports
      ∧ (s.answerMode p c).headEnabled = s.headEnabled
      ∧ (s.answerMode p c).settings = s.settings
      ∧ (s.answerMode p c).map = s.map
      ∧ (s.answerMode p c).drift = s.drift
      ∧ (s.answerMode p c).claims = s.claims
      ∧ (s.answerMode p c).arbiter = s.arbiter
      ∧ (s.answerMode p c).track = s.track
      ∧ (s.answerMode p c).dispenser = s.dispenser
      ∧ (s.answerMode p c).placement = s.placement
      ∧ (s.answerMode p c).capture = s.capture
      ∧ (s.answerMode p c).report = s.report
      ∧ (s.answerMode p c).spoilLatch = s.spoilLatch := by
  unfold State.answerMode
  repeat' split
  all_goals simp

@[simp] theorem becomeStill_frame (s : State) :
    (s.becomeStill).pending = s.pending
      ∧ (s.becomeStill).choices = s.choices
      ∧ (s.becomeStill).supplyLow = s.supplyLow
      ∧ (s.becomeStill).resetLow = s.resetLow
      ∧ (s.becomeStill).mode = s.mode
      ∧ (s.becomeStill).lineTime = s.lineTime
      ∧ (s.becomeStill).reports = s.reports
      ∧ (s.becomeStill).headEnabled = s.headEnabled
      ∧ (s.becomeStill).settings = s.settings
      ∧ (s.becomeStill).map = s.map
      ∧ (s.becomeStill).drift = s.drift
      ∧ (s.becomeStill).claims = s.claims
      ∧ (s.becomeStill).arbiter = s.arbiter
      ∧ (s.becomeStill).capture = s.capture
      ∧ (s.becomeStill).report = s.report
      ∧ (s.becomeStill).spoilLatch = s.spoilLatch := by
  unfold State.becomeStill
  all_goals simp

@[simp] theorem clearTrack_frame (s : State) :
    (s.clearTrack).pending = s.pending
      ∧ (s.clearTrack).choices = s.choices
      ∧ (s.clearTrack).supplyLow = s.supplyLow
      ∧ (s.clearTrack).resetLow = s.resetLow
      ∧ (s.clearTrack).mode = s.mode
      ∧ (s.clearTrack).lineTime = s.lineTime
      ∧ (s.clearTrack).reports = s.reports
      ∧ (s.clearTrack).headEnabled = s.headEnabled
      ∧ (s.clearTrack).settings = s.settings
      ∧ (s.clearTrack).map = s.map
      ∧ (s.clearTrack).drift = s.drift
      ∧ (s.clearTrack).claims = s.claims
      ∧ (s.clearTrack).arbiter = s.arbiter
      ∧ (s.clearTrack).placement = s.placement
      ∧ (s.clearTrack).capture = s.capture
      ∧ (s.clearTrack).spoilLatch = s.spoilLatch
      ∧ (s.clearTrack).report.log = s.report.log
      ∧ (s.clearTrack).report.nextSeq = s.report.nextSeq := by
  unfold State.clearTrack
  all_goals simp

@[simp] theorem shift_frame (s : State) (n : Nat) :
    (s.shift n).pending = s.pending
      ∧ (s.shift n).choices = s.choices
      ∧ (s.shift n).supplyLow = s.supplyLow
      ∧ (s.shift n).resetLow = s.resetLow
      ∧ (s.shift n).mode = s.mode
      ∧ (s.shift n).lineTime = s.lineTime
      ∧ (s.shift n).reports = s.reports
      ∧ (s.shift n).headEnabled = s.headEnabled
      ∧ (s.shift n).settings = s.settings
      ∧ (s.shift n).map = s.map
      ∧ (s.shift n).drift = s.drift
      ∧ (s.shift n).claims = s.claims
      ∧ (s.shift n).arbiter = s.arbiter
      ∧ (s.shift n).placement = s.placement
      ∧ (s.shift n).capture = s.capture
      ∧ (s.shift n).links = s.links
      ∧ (s.shift n).spoilLatch = s.spoilLatch
      ∧ (s.shift n).report.log = s.report.log
      ∧ (s.shift n).report.nextSeq = s.report.nextSeq := by
  unfold State.shift
  all_goals simp

@[simp] theorem badOnTrack_frame (s : State) (p : Nat) (c : Column) (mask : Byte) :
    (s.badOnTrack p c mask).pending = s.pending
      ∧ (s.badOnTrack p c mask).choices = s.choices
      ∧ (s.badOnTrack p c mask).supplyLow = s.supplyLow
      ∧ (s.badOnTrack p c mask).resetLow = s.resetLow
      ∧ (s.badOnTrack p c mask).mode = s.mode
      ∧ (s.badOnTrack p c mask).lineTime = s.lineTime
      ∧ (s.badOnTrack p c mask).reports = s.reports
      ∧ (s.badOnTrack p c mask).headEnabled = s.headEnabled
      ∧ (s.badOnTrack p c mask).settings = s.settings
      ∧ (s.badOnTrack p c mask).map = s.map
      ∧ (s.badOnTrack p c mask).drift = s.drift
      ∧ (s.badOnTrack p c mask).claims = s.claims
      ∧ (s.badOnTrack p c mask).arbiter = s.arbiter
      ∧ (s.badOnTrack p c mask).placement = s.placement
      ∧ (s.badOnTrack p c mask).capture = s.capture
      ∧ (s.badOnTrack p c mask).report = s.report
      ∧ (s.badOnTrack p c mask).spoilLatch = s.spoilLatch := by
  unfold State.badOnTrack
  repeat' split
  all_goals simp

@[simp] theorem badInQueue_frame (s : State) (id : Word) (column : Nat) (mask : Byte) :
    (s.badInQueue id column mask).pending = s.pending
      ∧ (s.badInQueue id column mask).choices = s.choices
      ∧ (s.badInQueue id column mask).supplyLow = s.supplyLow
      ∧ (s.badInQueue id column mask).resetLow = s.resetLow
      ∧ (s.badInQueue id column mask).mode = s.mode
      ∧ (s.badInQueue id column mask).lineTime = s.lineTime
      ∧ (s.badInQueue id column mask).reports = s.reports
      ∧ (s.badInQueue id column mask).headEnabled = s.headEnabled
      ∧ (s.badInQueue id column mask).settings = s.settings
      ∧ (s.badInQueue id column mask).map = s.map
      ∧ (s.badInQueue id column mask).drift = s.drift
      ∧ (s.badInQueue id column mask).claims = s.claims
      ∧ (s.badInQueue id column mask).arbiter = s.arbiter
      ∧ (s.badInQueue id column mask).dispenser = s.dispenser
      ∧ (s.badInQueue id column mask).placement = s.placement
      ∧ (s.badInQueue id column mask).capture = s.capture
      ∧ (s.badInQueue id column mask).report = s.report
      ∧ (s.badInQueue id column mask).links = s.links
      ∧ (s.badInQueue id column mask).spoilLatch = s.spoilLatch := by
  unfold State.badInQueue
  all_goals simp

@[simp] theorem closeMap_frame (s : State) (w : WaferInfo) :
    (s.closeMap w).pending = s.pending
      ∧ (s.closeMap w).choices = s.choices
      ∧ (s.closeMap w).supplyLow = s.supplyLow
      ∧ (s.closeMap w).resetLow = s.resetLow
      ∧ (s.closeMap w).mode = s.mode
      ∧ (s.closeMap w).lineTime = s.lineTime
      ∧ (s.closeMap w).reports = s.reports
      ∧ (s.closeMap w).headEnabled = s.headEnabled
      ∧ (s.closeMap w).settings = s.settings
      ∧ (s.closeMap w).drift = s.drift
      ∧ (s.closeMap w).claims = s.claims
      ∧ (s.closeMap w).arbiter = s.arbiter
      ∧ (s.closeMap w).track = s.track
      ∧ (s.closeMap w).dispenser = s.dispenser
      ∧ (s.closeMap w).placement = s.placement
      ∧ (s.closeMap w).capture = s.capture
      ∧ (s.closeMap w).report = s.report
      ∧ (s.closeMap w).links = s.links
      ∧ (s.closeMap w).spoilLatch = s.spoilLatch
      ∧ (s.closeMap w).map.table = s.map.table
      ∧ (s.closeMap w).map.counts = s.map.counts
      ∧ (s.closeMap w).map.nextIndex = s.map.nextIndex := by
  unfold State.closeMap
  all_goals simp

@[simp] theorem disableHead_frame (s : State) (h : Head) :
    (s.disableHead h).pending = s.pending
      ∧ (s.disableHead h).choices = s.choices
      ∧ (s.disableHead h).supplyLow = s.supplyLow
      ∧ (s.disableHead h).resetLow = s.resetLow
      ∧ (s.disableHead h).mode = s.mode
      ∧ (s.disableHead h).lineTime = s.lineTime
      ∧ (s.disableHead h).reports = s.reports
      ∧ (s.disableHead h).settings = s.settings
      ∧ (s.disableHead h).drift = s.drift
      ∧ (s.disableHead h).report.log = s.report.log
      ∧ (s.disableHead h).report.nextSeq = s.report.nextSeq
      ∧ (s.disableHead h).map.phase = s.map.phase
      ∧ (s.disableHead h).map.nextIndex = s.map.nextIndex := by
  unfold State.disableHead
  repeat' split
  all_goals simp

@[simp] theorem enableHead_frame (s : State) (h : Head) :
    (s.enableHead h).pending = s.pending
      ∧ (s.enableHead h).choices = s.choices
      ∧ (s.enableHead h).supplyLow = s.supplyLow
      ∧ (s.enableHead h).resetLow = s.resetLow
      ∧ (s.enableHead h).mode = s.mode
      ∧ (s.enableHead h).lineTime = s.lineTime
      ∧ (s.enableHead h).reports = s.reports
      ∧ (s.enableHead h).settings = s.settings
      ∧ (s.enableHead h).map = s.map
      ∧ (s.enableHead h).drift = s.drift
      ∧ (s.enableHead h).claims = s.claims
      ∧ (s.enableHead h).arbiter = s.arbiter
      ∧ (s.enableHead h).track = s.track
      ∧ (s.enableHead h).dispenser = s.dispenser
      ∧ (s.enableHead h).placement = s.placement
      ∧ (s.enableHead h).capture = s.capture
      ∧ (s.enableHead h).report = s.report
      ∧ (s.enableHead h).spoilLatch = s.spoilLatch := by
  unfold State.enableHead
  repeat' split
  all_goals simp

@[simp] theorem completeDispense_frame (s : State) (d : DispenseRef) (p : Nat) (st : Stamp) :
    (s.completeDispense d p st).pending = s.pending
      ∧ (s.completeDispense d p st).choices = s.choices
      ∧ (s.completeDispense d p st).supplyLow = s.supplyLow
      ∧ (s.completeDispense d p st).resetLow = s.resetLow
      ∧ (s.completeDispense d p st).mode = s.mode
      ∧ (s.completeDispense d p st).lineTime = s.lineTime
      ∧ (s.completeDispense d p st).reports = s.reports
      ∧ (s.completeDispense d p st).headEnabled = s.headEnabled
      ∧ (s.completeDispense d p st).settings = s.settings
      ∧ (s.completeDispense d p st).map = s.map
      ∧ (s.completeDispense d p st).drift = s.drift
      ∧ (s.completeDispense d p st).claims = s.claims
      ∧ (s.completeDispense d p st).arbiter = s.arbiter
      ∧ (s.completeDispense d p st).placement = s.placement
      ∧ (s.completeDispense d p st).capture = s.capture
      ∧ (s.completeDispense d p st).links = s.links
      ∧ (s.completeDispense d p st).report.log = s.report.log
      ∧ (s.completeDispense d p st).report.nextSeq = s.report.nextSeq := by
  unfold State.completeDispense
  repeat' split
  all_goals simp

@[simp] theorem retryPick_frame (s : State) (h : Head) (c : Claim) :
    (s.retryPick h c).pending = s.pending
      ∧ (s.retryPick h c).choices = s.choices
      ∧ (s.retryPick h c).supplyLow = s.supplyLow
      ∧ (s.retryPick h c).resetLow = s.resetLow
      ∧ (s.retryPick h c).mode = s.mode
      ∧ (s.retryPick h c).lineTime = s.lineTime
      ∧ (s.retryPick h c).reports = s.reports
      ∧ (s.retryPick h c).headEnabled = s.headEnabled
      ∧ (s.retryPick h c).settings = s.settings
      ∧ (s.retryPick h c).drift = s.drift
      ∧ (s.retryPick h c).arbiter = s.arbiter
      ∧ (s.retryPick h c).track = s.track
      ∧ (s.retryPick h c).dispenser = s.dispenser
      ∧ (s.retryPick h c).placement = s.placement
      ∧ (s.retryPick h c).capture = s.capture
      ∧ (s.retryPick h c).links = s.links
      ∧ (s.retryPick h c).spoilLatch = s.spoilLatch
      ∧ (s.retryPick h c).report.log = s.report.log
      ∧ (s.retryPick h c).report.nextSeq = s.report.nextSeq
      ∧ (s.retryPick h c).map.phase = s.map.phase
      ∧ (s.retryPick h c).map.nextIndex = s.map.nextIndex := by
  unfold State.retryPick
  all_goals simp

@[simp] theorem completeBond_frame (s : State) (h : Head) (a : Assigned) (c : Claim) (st : Stamp) (late : Bool) (m : EdgeMatch) :
    (s.completeBond h a c st late m).pending = s.pending
      ∧ (s.completeBond h a c st late m).choices = s.choices
      ∧ (s.completeBond h a c st late m).supplyLow = s.supplyLow
      ∧ (s.completeBond h a c st late m).resetLow = s.resetLow
      ∧ (s.completeBond h a c st late m).mode = s.mode
      ∧ (s.completeBond h a c st late m).lineTime = s.lineTime
      ∧ (s.completeBond h a c st late m).reports = s.reports
      ∧ (s.completeBond h a c st late m).headEnabled = s.headEnabled
      ∧ (s.completeBond h a c st late m).settings = s.settings
      ∧ (s.completeBond h a c st late m).drift = s.drift
      ∧ (s.completeBond h a c st late m).arbiter = s.arbiter
      ∧ (s.completeBond h a c st late m).capture = s.capture
      ∧ (s.completeBond h a c st late m).links = s.links
      ∧ (s.completeBond h a c st late m).spoilLatch = s.spoilLatch
      ∧ (s.completeBond h a c st late m).map.phase = s.map.phase
      ∧ (s.completeBond h a c st late m).map.nextIndex = s.map.nextIndex := by
  unfold State.completeBond
  repeat' split
  all_goals simp

@[simp] theorem misplace_frame (s : State) (h : Head) (a : Assigned) (st : Stamp) :
    (s.misplace h a st).pending = s.pending
      ∧ (s.misplace h a st).choices = s.choices
      ∧ (s.misplace h a st).supplyLow = s.supplyLow
      ∧ (s.misplace h a st).resetLow = s.resetLow
      ∧ (s.misplace h a st).mode = s.mode
      ∧ (s.misplace h a st).lineTime = s.lineTime
      ∧ (s.misplace h a st).reports = s.reports
      ∧ (s.misplace h a st).headEnabled = s.headEnabled
      ∧ (s.misplace h a st).settings = s.settings
      ∧ (s.misplace h a st).drift = s.drift
      ∧ (s.misplace h a st).arbiter = s.arbiter
      ∧ (s.misplace h a st).capture = s.capture
      ∧ (s.misplace h a st).links = s.links
      ∧ (s.misplace h a st).report.log = s.report.log
      ∧ (s.misplace h a st).report.nextSeq = s.report.nextSeq
      ∧ (s.misplace h a st).map.phase = s.map.phase
      ∧ (s.misplace h a st).map.nextIndex = s.map.nextIndex := by
  unfold State.misplace
  all_goals simp

@[simp] theorem presentOffset_frame (s : State) (o : Order) :
    (s.presentOffset o).pending = s.pending
      ∧ (s.presentOffset o).choices = s.choices
      ∧ (s.presentOffset o).supplyLow = s.supplyLow
      ∧ (s.presentOffset o).resetLow = s.resetLow
      ∧ (s.presentOffset o).mode = s.mode
      ∧ (s.presentOffset o).lineTime = s.lineTime
      ∧ (s.presentOffset o).reports = s.reports
      ∧ (s.presentOffset o).headEnabled = s.headEnabled
      ∧ (s.presentOffset o).settings = s.settings
      ∧ (s.presentOffset o).drift = s.drift
      ∧ (s.presentOffset o).track = s.track
      ∧ (s.presentOffset o).dispenser = s.dispenser
      ∧ (s.presentOffset o).placement = s.placement
      ∧ (s.presentOffset o).capture = s.capture
      ∧ (s.presentOffset o).spoilLatch = s.spoilLatch
      ∧ (s.presentOffset o).report.log = s.report.log
      ∧ (s.presentOffset o).report.nextSeq = s.report.nextSeq
      ∧ (s.presentOffset o).map.phase = s.map.phase
      ∧ (s.presentOffset o).map.nextIndex = s.map.nextIndex := by
  unfold State.presentOffset
  all_goals simp

@[simp] theorem presentAccepted_frame (s : State) (o : Order) (handout : Time) (ex ey : Int) :
    (s.presentAccepted o handout ex ey).pending = s.pending
      ∧ (s.presentAccepted o handout ex ey).choices = s.choices
      ∧ (s.presentAccepted o handout ex ey).supplyLow = s.supplyLow
      ∧ (s.presentAccepted o handout ex ey).resetLow = s.resetLow
      ∧ (s.presentAccepted o handout ex ey).mode = s.mode
      ∧ (s.presentAccepted o handout ex ey).lineTime = s.lineTime
      ∧ (s.presentAccepted o handout ex ey).reports = s.reports
      ∧ (s.presentAccepted o handout ex ey).headEnabled = s.headEnabled
      ∧ (s.presentAccepted o handout ex ey).settings = s.settings
      ∧ (s.presentAccepted o handout ex ey).track = s.track
      ∧ (s.presentAccepted o handout ex ey).dispenser = s.dispenser
      ∧ (s.presentAccepted o handout ex ey).placement = s.placement
      ∧ (s.presentAccepted o handout ex ey).capture = s.capture
      ∧ (s.presentAccepted o handout ex ey).spoilLatch = s.spoilLatch
      ∧ (s.presentAccepted o handout ex ey).report.log = s.report.log
      ∧ (s.presentAccepted o handout ex ey).report.nextSeq = s.report.nextSeq
      ∧ (s.presentAccepted o handout ex ey).map.phase = s.map.phase
      ∧ (s.presentAccepted o handout ex ey).map.nextIndex = s.map.nextIndex := by
  unfold State.presentAccepted
  all_goals simp

@[simp] theorem presentNotFound_frame (s : State) (o : Order) :
    (s.presentNotFound o).pending = s.pending
      ∧ (s.presentNotFound o).choices = s.choices
      ∧ (s.presentNotFound o).supplyLow = s.supplyLow
      ∧ (s.presentNotFound o).resetLow = s.resetLow
      ∧ (s.presentNotFound o).mode = s.mode
      ∧ (s.presentNotFound o).lineTime = s.lineTime
      ∧ (s.presentNotFound o).reports = s.reports
      ∧ (s.presentNotFound o).headEnabled = s.headEnabled
      ∧ (s.presentNotFound o).settings = s.settings
      ∧ (s.presentNotFound o).drift = s.drift
      ∧ (s.presentNotFound o).track = s.track
      ∧ (s.presentNotFound o).dispenser = s.dispenser
      ∧ (s.presentNotFound o).placement = s.placement
      ∧ (s.presentNotFound o).capture = s.capture
      ∧ (s.presentNotFound o).spoilLatch = s.spoilLatch
      ∧ (s.presentNotFound o).report.log = s.report.log
      ∧ (s.presentNotFound o).report.nextSeq = s.report.nextSeq
      ∧ (s.presentNotFound o).map.phase = s.map.phase
      ∧ (s.presentNotFound o).map.nextIndex = s.map.nextIndex := by
  unfold State.presentNotFound
  all_goals simp

@[simp] theorem presentMotion_frame (s : State) (o : Order) :
    (s.presentMotion o).pending = s.pending
      ∧ (s.presentMotion o).choices = s.choices
      ∧ (s.presentMotion o).supplyLow = s.supplyLow
      ∧ (s.presentMotion o).resetLow = s.resetLow
      ∧ (s.presentMotion o).mode = s.mode
      ∧ (s.presentMotion o).lineTime = s.lineTime
      ∧ (s.presentMotion o).reports = s.reports
      ∧ (s.presentMotion o).headEnabled = s.headEnabled
      ∧ (s.presentMotion o).settings = s.settings
      ∧ (s.presentMotion o).drift = s.drift
      ∧ (s.presentMotion o).track = s.track
      ∧ (s.presentMotion o).dispenser = s.dispenser
      ∧ (s.presentMotion o).placement = s.placement
      ∧ (s.presentMotion o).capture = s.capture
      ∧ (s.presentMotion o).spoilLatch = s.spoilLatch
      ∧ (s.presentMotion o).report.log = s.report.log
      ∧ (s.presentMotion o).report.nextSeq = s.report.nextSeq
      ∧ (s.presentMotion o).map.phase = s.map.phase
      ∧ (s.presentMotion o).map.nextIndex = s.map.nextIndex := by
  unfold State.presentMotion
  all_goals simp

@[simp] theorem writeSetting_frame (s : State) (id : Nat) (v : Int) :
    (s.writeSetting id v).pending = s.pending
      ∧ (s.writeSetting id v).choices = s.choices
      ∧ (s.writeSetting id v).supplyLow = s.supplyLow
      ∧ (s.writeSetting id v).resetLow = s.resetLow
      ∧ (s.writeSetting id v).mode = s.mode
      ∧ (s.writeSetting id v).lineTime = s.lineTime
      ∧ (s.writeSetting id v).reports = s.reports
      ∧ (s.writeSetting id v).headEnabled = s.headEnabled
      ∧ (s.writeSetting id v).claims = s.claims
      ∧ (s.writeSetting id v).arbiter = s.arbiter
      ∧ (s.writeSetting id v).dispenser = s.dispenser
      ∧ (s.writeSetting id v).capture = s.capture
      ∧ (s.writeSetting id v).spoilLatch = s.spoilLatch
      ∧ (s.writeSetting id v).report.log = s.report.log
      ∧ (s.writeSetting id v).report.nextSeq = s.report.nextSeq
      ∧ (s.writeSetting id v).map.phase = s.map.phase
      ∧ (s.writeSetting id v).map.nextIndex = s.map.nextIndex := by
  unfold State.writeSetting
  all_goals simp

@[simp] theorem losePlaced_frame (s : State) (h : Head) (a : Assigned) (st : Stamp) :
    (s.losePlaced h a st).pending = s.pending
      ∧ (s.losePlaced h a st).choices = s.choices
      ∧ (s.losePlaced h a st).supplyLow = s.supplyLow
      ∧ (s.losePlaced h a st).resetLow = s.resetLow
      ∧ (s.losePlaced h a st).mode = s.mode
      ∧ (s.losePlaced h a st).lineTime = s.lineTime
      ∧ (s.losePlaced h a st).reports = s.reports
      ∧ (s.losePlaced h a st).headEnabled = s.headEnabled
      ∧ (s.losePlaced h a st).settings = s.settings
      ∧ (s.losePlaced h a st).drift = s.drift
      ∧ (s.losePlaced h a st).arbiter = s.arbiter
      ∧ (s.losePlaced h a st).placement = s.placement
      ∧ (s.losePlaced h a st).capture = s.capture
      ∧ (s.losePlaced h a st).links = s.links
      ∧ (s.losePlaced h a st).report.log = s.report.log
      ∧ (s.losePlaced h a st).report.nextSeq = s.report.nextSeq
      ∧ (s.losePlaced h a st).map.phase = s.map.phase
      ∧ (s.losePlaced h a st).map.nextIndex = s.map.nextIndex := by
  unfold State.losePlaced
  all_goals simp

end Sys2Proof.Machine
end

