-- ==== Sys2Proof/Laws/Links.lean ====
section
/-! SUPPORT. What a frame and the taking of requests do on a port that is idle: the bytes of a frame carry its request,
`settle` does nothing when no request waits, and a request that arrives on an idle port is handed to its block. -/

namespace Sys2Proof.Machine

open Sys2Proof

/-! ## Bytes -/

theorem word_of_bytes (w : Word) : (w.extractLsb' 8 8 ++ w.extractLsb' 0 8 : BitVec 16) = w := by
  apply BitVec.eq_of_getLsbD_eq
  intro i hi
  rw [BitVec.getLsbD_append]
  by_cases h : i < 8
  · simp [h]
  · have h2 : i - 8 < 8 := by omega
    have h3 : 8 + (i - 8) = i := by omega
    simp [h, h2, h3]

theorem wordsOf_wordBytes (ws : List Word) : wordsOf (ws.flatMap wordBytes) = ws := by
  induction ws with
  | nil => rfl
  | cons w rest ih =>
    simp only [List.flatMap_cons, wordBytes, List.cons_append, List.nil_append, wordsOf, ih, word_of_bytes]

@[simp] theorem length_wordBytes (w : Word) : (wordBytes w).length = 2 := rfl

theorem length_flatMap_wordBytes (ws : List Word) : (ws.flatMap wordBytes).length = 2 * ws.length := by
  simp [Nat.mul_comm]

theorem length_frameBytes (r : Request) : (frameBytes r).length = 3 + 2 * r.words.length := by
  rw [frameBytes, List.length_append, length_flatMap_wordBytes]; rfl

/-- The bytes of a request of at most 24 words carry that request (R174). -/
theorem parseFrame_frameBytes (r : Request) (h : r.words.length ≤ Config.maxRequestWords) :
    parseFrame (frameBytes r) 0 = some r := by
  have hn : (BitVec.ofNat 8 r.words.length).toNat = r.words.length := by
    rw [BitVec.toNat_ofNat]
    exact Nat.mod_eq_of_lt (Nat.lt_of_le_of_lt h (by decide))
  have hl := length_flatMap_wordBytes r.words
  simp only [frameBytes, List.cons_append, List.nil_append, parseFrame, hn, h, hl, wordsOf_wordBytes, and_self,
    if_true]

/-! ## Settling -/

theorem ready_eq_nil_of_empty {s : State} (h : ∀ q, (s.link q).requests = []) : s.ready = [] := by
  simp [State.ready, Link.canTake, h]

theorem settleFor_of_settled {s : State} (h : s.Settled) (n : Nat) : settleFor n s = s := by
  cases n with
  | zero => rfl
  | succ n =>
    unfold State.Settled at h
    simp [settleFor, h, pickOne]

/-- Settling does nothing when no port can take a request. -/
theorem settle_of_settled {s : State} (h : s.Settled) : s.settle = s := settleFor_of_settled h _

/-- Settling does nothing when no request waits. -/
theorem settle_of_empty {s : State} (h : ∀ q, (s.link q).requests = []) : s.settle = s :=
  settle_of_settled (ready_eq_nil_of_empty h)

/-! ## A frame on a running part -/

theorem statusByte_lost (s : State) (p : Port) : (s.statusByte p).getLsbD 0 = (s.link p).lost := by
  rw [State.statusByte, BitVec.getLsbD_ofNat, Nat.testBit_zero]
  cases (s.link p).lost
  · have h : ((s.link p).replies.length * 16 + bit (s.isAborted p) * 8 + bit (s.link p).held.isSome * 4
        + bit (s.link p).fresh * 2 + bit false) % 2 = 0 := by
      have : bit false = 0 := rfl
      omega
    simp [h]
  · have h : ((s.link p).replies.length * 16 + bit (s.isAborted p) * 8 + bit (s.link p).held.isSome * 4
        + bit (s.link p).fresh * 2 + bit true) % 2 = 1 := by
      have : bit true = 1 := rfl
      omega
    simp [h]

theorem statusByte_zero (s : State) (p : Port) : (s.statusByte p)[0] = (s.link p).lost := by
  rw [← statusByte_lost]; rfl

theorem endFrame_request {s : State} {p : Port} {b : Byte} {rest : List Byte} {extra : Nat}
    (running : s.inReset = false) (code : b ≠ 0) :
    s.endFrame p (b :: rest) extra = s.endRequest p (b :: rest) extra := by
  unfold State.endFrame
  simp only [running, Bool.false_eq_true, if_false, code]

/-- A whole request frame on a part that takes frames (R174): the frame ends, then its request is received. -/
theorem arrive_eq {s : State} {p : Port} {r : Request} (running : s.inReset = false) (started : s.mode ≠ .init)
    (fits : r.words.length ≤ Config.maxRequestWords) (code : r.code ≠ 0) :
    s.arrive p r = (s.framed p r).receive p r := by
  have hb : s.beginFrame p = s.setLink p { s.link p with
      selectLow := true
      frame := some (s.newFrame p) } := by
    simp [State.beginFrame, running]
  have hreset : (s.beginFrame p).inReset = false := by rw [hb]; exact running
  have hmode : (s.beginFrame p).mode ≠ .init := by rw [hb]; exact started
  have hbytes : frameBytes r = r.code :: (frameBytes r).tail := rfl
  have hparse := parseFrame_frameBytes r fits
  have hlen : (frameBytes r).length - 1 = 2 + 2 * r.words.length := by rw [length_frameBytes]; omega
  have hfr : (s.beginFrame p).endingFrame p = s.newFrame p := by rw [hb]; simp [State.endingFrame]
  have hlink : (s.beginFrame p).setLink p
      (((s.beginFrame p).link p).endFrame (s.newFrame p)
        ((s.newFrame p).status :: List.replicate ((frameBytes r).length - 1) 0)) = s.framed p r := by
    rw [hb, hlen]
    simp [Link.endFrame, State.framed, State.newFrame, statusByte_zero]
  rw [State.arrive, hbytes, endFrame_request hreset code]
  rw [← hbytes, State.endRequest, hfr, hlink]
  simp only [hparse]
  simp [started]

/-- A request that arrives on a port whose queue is full or not is queued or lost (R179); one that is not immediate
joins the queue when there is room. -/
theorem receive_queued {s : State} {p : Port} {r : Request} (imm : p.isImmediate r.code = false)
    (room : (s.link p).requests.length < Config.requestCapacity) :
    s.receive p r = (s.setLink p { s.link p with requests := (s.link p).requests ++ [r] }).settle := by
  have h : isSoftReset p r = false := by
    simp [Port.isImmediate] at imm
    simp [isSoftReset]
    intro hp hc
    exact absurd hc (imm.2 hp)
  simp [State.receive, h, imm, room]

/-! ## A request on an idle port -/

theorem framed_link (s : State) (p : Port) (r : Request) :
    (s.framed p r).link p = { s.link p with
      selectLow := false
      frame := none
      lost := false
      sdo := s.statusByte p :: List.replicate (2 + 2 * r.words.length) 0 } := by
  simp [State.framed]

theorem framed_link_ne (s : State) {p q : Port} (r : Request) (hq : q ≠ p) : (s.framed p r).link q = s.link q :=
  setLink_link_ne s _ hq

@[simp] theorem accepted_link (s : State) (p : Port) (r : Request) :
    (s.accepted p r).link p = { s.link p with
      selectLow := false
      frame := none
      lost := false
      fresh := false
      sdo := s.statusByte p :: List.replicate (2 + 2 * r.words.length) 0 } := by
  simp [State.accepted, State.clearFresh, framed_link]

theorem accepted_link_ne (s : State) {p q : Port} (r : Request) (hq : q ≠ p) :
    (s.accepted p r).link q = s.link q := by
  rw [State.accepted, clearFresh_link_ne _ hq, framed_link_ne _ _ hq]

theorem ready_singleton {s : State} {p : Port} (hp : (s.link p).canTake = true)
    (hq : ∀ q, q ≠ p → (s.link q).canTake = false) : s.ready = [p] := by
  have h : ∀ q, (s.link q).canTake = decide (q = p) := by
    intro q
    by_cases h : q = p
    · subst h; simp [hp]
    · simp [hq q h, h]
  simp only [State.ready, h, Port.all]
  cases p <;> rfl

theorem queued_eq (s : State) :
    s.queued = (s.link .cell).requests.length + (s.link .headA).requests.length + (s.link .headB).requests.length
      + (s.link .table).requests.length + (s.link .dispense).requests.length := by
  simp [State.queued, Port.all]; omega

theorem queued_single {s : State} {p : Port} {r : Request} (hp : (s.link p).requests = [r])
    (hq : ∀ q, q ≠ p → (s.link q).requests = []) : s.queued = 1 := by
  rw [queued_eq]
  cases p <;> simp [hp, hq]

/-- A queued request that reaches an idle port is taken in the event of its arrival (R181). -/
theorem receive_idle {s : State} {p : Port} {r : Request} (empty : ∀ q, (s.link q).requests = [])
    (free : (s.link p).held = none) (room : (s.link p).replies.length ≤ 7) (imm : p.isImmediate r.code = false) :
    s.receive p r = take p r s := by
  have hcap : (s.link p).requests.length < Config.requestCapacity := by rw [empty p]; decide
  rw [receive_queued imm hcap, empty p, List.nil_append]
  have hl : (s.setLink p { s.link p with requests := [r] }).link p = { s.link p with requests := [r] } :=
    setLink_link ..
  have hne : ∀ q, q ≠ p → (s.setLink p { s.link p with requests := [r] }).link q = s.link q :=
    fun q hq => setLink_link_ne s _ hq
  have hready : (s.setLink p { s.link p with requests := [r] }).ready = [p] := by
    refine ready_singleton ?_ fun q hq => ?_
    · rw [hl]; simp [Link.canTake, free, room]
    · rw [hne q hq]; simp [Link.canTake, empty q]
  have hqueued : (s.setLink p { s.link p with requests := [r] }).queued = 1 := by
    refine queued_single (p := p) (r := r) (by rw [hl]) fun q hq => ?_
    rw [hne q hq]; exact empty q
  rw [State.settle, hqueued, settleFor, hready]
  simp only [pickOne, State.chooseAmong, List.length_singleton, Nat.lt_irrefl, if_false, settleFor, State.takeOldest]
  rw [hl]
  simp only [setLink_setLink]
  congr 1
  have : ({ s.link p with requests := [] } : Link) = s.link p := by rw [← empty p]
  rw [this]; exact setLink_self s p

/-- A request that arrives on an open port is taken in the event of its arrival, and nothing else is (R174, R181). -/
theorem arrive_open {s : State} {p : Port} {r : Request} (o : s.Open p)
    (fits : r.words.length ≤ Config.maxRequestWords) (code : r.code ≠ 0) (imm : p.isImmediate r.code = false) :
    s.arrive p r = take p r (s.framed p r) := by
  rw [arrive_eq o.running o.started fits code, receive_idle ?_ ?_ ?_ imm]
  · intro q
    by_cases hq : q = p
    · subst hq; rw [framed_link]; exact o.empty q
    · rw [framed_link_ne _ _ hq]; exact o.empty q
  · rw [framed_link]; exact o.free
  · rw [framed_link]; exact o.room

/-- A request of the port's role that arrives on an idle port is handed to its block in the event of its arrival, and
nothing else is taken (R174, R181). -/
theorem arrive_idle {s : State} {p : Port} {r : Request} {c : Command} (idle : s.Idle p)
    (fits : r.words.length ≤ Config.maxRequestWords) (code : r.code ≠ 0) (imm : p.isImmediate r.code = false)
    (role : p.command r.code = some c) : s.arrive p r = takeCommand p c r (s.accepted p r) := by
  rw [arrive_open idle.toOpen fits code imm]
  have ha : ((s.framed p r).clearFresh p).isAborted p = false := by
    simp [State.isAborted, framed_link, idle.serving]
  simp [take, role, ha, State.accepted]

theorem Command.code_ne_zero (c : Command) : c.code ≠ 0 := by cases c <;> decide

/-- `arrive_idle` for a request by its name. -/
theorem request_idle {s : State} {p : Port} {c : Command} {tag : Byte} {words : List Word} (idle : s.Idle p)
    (fits : words.length ≤ Config.maxRequestWords) (imm : p.isImmediate c.code = false)
    (role : p.command c.code = some c) :
    s.request p c tag words = takeCommand p c ⟨c.code, tag, words⟩ (s.accepted p ⟨c.code, tag, words⟩) :=
  arrive_idle idle fits c.code_ne_zero imm role

end Sys2Proof.Machine
end

