-- ==== Sys2Proof/Laws/Answers.lean ====
section
/-! SUPPORT. What the blocks' operations do to the link units: they answer held requests and flush aborted ports, and do
nothing else. `Link.Follows` says what one link unit can have gone through inside an event, apart from the taking of a
request; each operation that reaches a link unit has one lemma. -/

namespace Sys2Proof.Machine

open Sys2Proof

/-- What can happen to a link unit inside an event, apart from the taking of a request: its request queue is kept or
flushed, its held request is kept or answered, and it enters abort only with its slot empty. -/
structure Link.Follows (l m : Link) : Prop where
  requests : m.requests = l.requests ∨ m.requests = []
  owed : m.owed = l.owed
  held : m.held = l.held ∨ m.held = none
  causes : m.held = none ∨ m.causes = l.causes

theorem Link.Follows.refl (l : Link) : l.Follows l := ⟨.inl rfl, rfl, .inl rfl, .inr rfl⟩

theorem Link.Follows.trans {l m n : Link} (h : l.Follows m) (k : m.Follows n) : l.Follows n where
  requests := by
    rcases k.requests with e | e
    · rw [e]; exact h.requests
    · exact .inr e
  owed := k.owed.trans h.owed
  held := by
    rcases k.held with e | e
    · rw [e]; exact h.held
    · exact .inr e
  causes := by
    rcases k.causes with e | e
    · exact .inl e
    · rcases k.held with e' | e'
      · rw [e', e]; exact h.causes
      · exact .inl e'

/-- Every link unit has gone through no more than `Link.Follows`. -/
structure State.Follows (s t : State) : Prop where
  link : ∀ q, (s.link q).Follows (t.link q)

theorem State.Follows.refl (s : State) : s.Follows s := ⟨fun _ => .refl _⟩

theorem State.Follows.trans {s t u : State} (h : s.Follows t) (k : t.Follows u) : s.Follows u :=
  ⟨fun q => (h.link q).trans (k.link q)⟩

/-- An operation that leaves the link units alone. -/
theorem State.Follows.of_links {s t : State} (h : t.links = s.links) : s.Follows t := by
  constructor
  intro q
  rw [link_eq, link_eq, h]
  exact .refl _

/-- An operation on one link unit. -/
theorem State.Follows.of_setLink {s : State} {p : Port} {l : Link} (h : (s.link p).Follows l) :
    s.Follows (s.setLink p l) := by
  constructor
  intro q
  by_cases hq : q = p
  · subst hq; rw [setLink_link]; exact h
  · rw [setLink_link_ne _ _ hq]; exact .refl _

theorem answerHeld_follows (s : State) (p : Port) (code : ReplyCode) (ws : List Word) :
    s.Follows (s.answerHeld p code ws) := by
  unfold State.answerHeld
  split
  · exact .refl _
  · next h e => exact .of_setLink ⟨.inl rfl, by simp [Link.owed, e, bit], .inr rfl, .inl rfl⟩

theorem wakeReserve_follows (s : State) (h : Head) : s.Follows (s.wakeReserve h) := by
  unfold State.wakeReserve
  split
  · split
    · exact .refl _
    · next ans t e =>
      unfold State.tryReserve at e
      split at e <;> [cases e; skip]
      split at e <;> [cases e; skip]
      simp only [Option.some.injEq] at e
      have e := congrArg Prod.snd e
      simp only at e
      subst e
      exact .trans (.of_links (by simp)) (answerHeld_follows ..)
  · exact .refl _

theorem wakeReserves_follows (s : State) : s.Follows s.wakeReserves := by
  unfold State.wakeReserves
  split <;> exact .trans (wakeReserve_follows ..) (wakeReserve_follows ..)

theorem deliver_follows (s : State) : s.Follows s.deliver := by
  unfold State.deliver
  split
  · split
    · exact .trans (.of_links (by simp)) (answerHeld_follows ..)
    · exact .refl _
  all_goals exact .refl _

theorem grantUnreachable_follows (s : State) (e : Waiter) (w : WaferInfo) (d : DieRecord) :
    s.Follows (s.grantUnreachable e w d) :=
  .trans (.of_links (by simp)) (answerHeld_follows ..)

theorem grantReachable_follows (s : State) (e : Waiter) (w : WaferInfo) (d : DieRecord) :
    s.Follows (s.grantReachable e w d) := by
  unfold State.grantReachable
  exact .trans (.of_links (by simp)) (deliver_follows _)

theorem grantEntries_follows (l : List Waiter) (s : State) : s.Follows (grantEntries l s) := by
  induction l generalizing s with
  | nil => exact .of_links (by simp [grantEntries])
  | cons e rest ih =>
    unfold grantEntries
    refine .trans (State.Follows.of_links (t := s.setArbiter { s.arbiter with waiting := rest }) (by simp)) ?_
    simp only
    split
    · exact ih _
    · split
      · exact ih _
      · split
        · exact grantReachable_follows ..
        · exact .trans (grantUnreachable_follows ..) (ih _)

theorem applyGrants_follows (s : State) : s.Follows s.applyGrants := by
  unfold State.applyGrants
  split <;> [exact grantEntries_follows ..; exact .refl _]

theorem stationWakes_follows (s : State) : s.Follows s.stationWakes :=
  .trans (applyGrants_follows s) (wakeReserves_follows _)

theorem serveNextSite_follows (s : State) : s.Follows s.serveNextSite := by
  unfold State.serveNextSite
  split
  · split
    · exact .refl _
    · exact .trans (.of_links (by simp)) (answerHeld_follows ..)
  · exact .refl _

theorem assign_follows (s : State) (e : Placer) (c : Candidate) : s.Follows (s.assign e c) := by
  unfold State.assign
  split
  · exact .trans (.of_links (by simp)) (answerHeld_follows ..)
  · exact .refl _

theorem servePlacerList_follows (l : List Placer) (s : State) : s.Follows (servePlacerList l s) := by
  induction l generalizing s with
  | nil => exact .refl _
  | cons e rest ih =>
    unfold servePlacerList
    split
    · exact ih _
    · exact .trans (assign_follows ..) (ih _)

theorem servePlacers_follows (s : State) : s.Follows s.servePlacers := by
  unfold State.servePlacers
  split <;> [exact servePlacerList_follows ..; exact .refl _]

theorem siteWakes_follows (s : State) : s.Follows s.siteWakes :=
  .trans (.trans (.of_links (by simp)) (serveNextSite_follows _)) (servePlacers_follows _)

theorem settingWritten_follows (s : State) (id : Nat) : s.Follows (s.settingWritten id) := by
  unfold State.settingWritten
  split
  · exact .of_links (by simp)
  · split
    · exact .of_links (by simp)
    · split
      · exact .of_links (by simp)
      · split <;> [exact servePlacers_follows _; exact .refl _]

theorem disposeHead_follows (s : State) (h : Head) : s.Follows (s.disposeHead h) :=
  .trans (.trans (.of_links (by simp)) (siteWakes_follows _)) (stationWakes_follows _)

theorem disposeTable_follows (s : State) : s.Follows s.disposeTable := by
  unfold State.disposeTable
  split
  · exact .trans (.trans (.of_links (by simp)) (answerHeld_follows ..)) (stationWakes_follows _)
  all_goals exact .refl _

theorem disposeDispense_follows (s : State) : s.Follows s.disposeDispense := by
  unfold State.disposeDispense
  split
  · exact .of_links (by simp)
  · split
    · exact .of_links (by simp)
    · exact .trans (.of_links (by simp)) (siteWakes_follows _)

theorem dispose_follows (s : State) (p : Port) : s.Follows (s.dispose p) := by
  cases p
  · exact .refl _
  · exact disposeHead_follows ..
  · exact disposeHead_follows ..
  · exact disposeTable_follows _
  · exact disposeDispense_follows _

theorem answerHeld_held (s : State) (p : Port) (code : ReplyCode) (ws : List Word) :
    ((s.answerHeld p code ws).link p).held = none := by
  unfold State.answerHeld
  split
  · assumption
  · rw [setLink_link]

theorem enterAbort_follows (s : State) (p : Port) (c : AbortCause) (sticky : Bool) :
    s.Follows (s.enterAbort p c sticky) := by
  unfold State.enterAbort
  refine .trans ?_ (dispose_follows _ _)
  refine .trans ?_ (State.Follows.of_links (notify_frame _ _ _).2.2.2.2.2.2.2.2.2.2.2.2.2.2.2.2.2.1)
  refine .trans (.trans (.of_setLink ?_) (answerHeld_follows ..)) (.of_setLink ?_)
  · exact ⟨.inr rfl, rfl, .inl rfl, .inr rfl⟩
  · exact ⟨.inl rfl, rfl, .inl rfl, .inl (answerHeld_held ..)⟩

theorem addCause_ne_nil (cs : List CauseMark) (c : AbortCause) (sticky : Bool) : addCause cs c sticky ≠ [] := by
  unfold addCause
  split
  · next h =>
    intro e
    rw [List.map_eq_nil_iff] at e
    rw [e] at h
    simp at h
  · simp

/-- A cause that reaches a port (R192, R193). A port that holds a request is not aborted while its slot is legal. -/
theorem causeReaches_follows {s : State} {p : Port} (legal : (s.link p).causes ≠ [] → (s.link p).held = none)
    (c : AbortCause) (sticky : Bool) : s.Follows (s.causeReaches p c sticky) := by
  unfold State.causeReaches
  split
  · next h =>
    refine .of_setLink ⟨.inl rfl, rfl, .inl rfl, .inl (legal ?_)⟩
    intro e
    simp [State.isAborted, e] at h
  · exact enterAbort_follows ..

end Sys2Proof.Machine
end

