-- ==== Sys2Proof/Laws/Wakes.lean ====
section
/-! SUPPORT. When the wake-ups that end an event find nothing to wake: with no request held and both queues empty, each
of them leaves the state as it is. -/

namespace Sys2Proof.Machine

open Sys2Proof

theorem holds_of_none {s : State} {p : Port} (h : (s.link p).held = none) (code : Byte) : s.holds p code = false := by
  simp [State.holds, h]

theorem wakeReserve_of_not_held {s : State} {h : Head} (hs : s.holds h.port Command.reserve.code = false) :
    s.wakeReserve h = s := by
  simp [State.wakeReserve, hs]

/-- With no RESERVE held, nothing is re-evaluated (R44). -/
theorem wakeReserves_of_not_held {s : State} (hA : s.holds .headA Command.reserve.code = false)
    (hB : s.holds .headB Command.reserve.code = false) : s.wakeReserves = s := by
  have a : s.wakeReserve .A = s := wakeReserve_of_not_held (h := .A) hA
  have b : s.wakeReserve .B = s := wakeReserve_of_not_held (h := .B) hB
  simp [State.wakeReserves, a, b]

/-- With no NEXT-SITE held, nothing is handed out (R96). -/
theorem serveNextSite_of_not_held {s : State} (h : s.holds .dispense Command.nextSite.code = false) :
    s.serveNextSite = s := by
  simp [State.serveNextSite, h]

/-- With an empty placer queue, nothing is served (R118). -/
theorem servePlacers_of_empty {s : State} (h : s.placement.queue = []) : s.servePlacers = s := by
  simp [State.servePlacers, h, servePlacerList]

/-- With an empty waiting queue, nothing is granted (R51). -/
theorem applyGrants_of_empty {s : State} (h : s.arbiter.waiting = []) : s.applyGrants = s := by
  unfold State.applyGrants
  split
  · rw [h, grantEntries, ← h]; rfl
  · rfl

/-- While the station is not FREE, nothing is granted (R51). -/
theorem applyGrants_of_not_free {s : State} (h : s.arbiter.station ≠ .free) : s.applyGrants = s := by
  simp [State.applyGrants, h]

/-- The drain test changes nothing while the track is not DRAINING (R79). -/
theorem drainTest_of_not_draining {s : State} (h : ∀ n, s.track.phase ≠ .draining n) : s.drainTest = s := by
  unfold State.drainTest
  split
  · next n e => exact absurd e (h n)
  · rfl
  · rfl

theorem stationWakes_of_quiet {s : State} (hw : s.arbiter.waiting = [])
    (hA : s.holds .headA Command.reserve.code = false) (hB : s.holds .headB Command.reserve.code = false) :
    s.stationWakes = s := by
  rw [State.stationWakes, applyGrants_of_empty hw, wakeReserves_of_not_held hA hB]

theorem siteWakes_of_quiet {s : State} (ht : ∀ n, s.track.phase ≠ .draining n) (hp : s.placement.queue = [])
    (hn : s.holds .dispense Command.nextSite.code = false) : s.siteWakes = s := by
  rw [State.siteWakes, drainTest_of_not_draining ht, serveNextSite_of_not_held hn, servePlacers_of_empty hp]

/-- An operation that leaves the link units alone leaves what a port holds. -/
theorem holds_of_links {s t : State} (h : t.links = s.links) (p : Port) (code : Byte) :
    t.holds p code = s.holds p code := by
  simp [State.holds, link_eq, h]

theorem reply_holds (s : State) (p q : Port) (tag : Byte) (c : ReplyCode) (ws : List Word) (code : Byte) :
    (s.reply p tag c ws).holds q code = s.holds q code := by
  by_cases hq : q = p
  · subst hq; simp [State.holds]
  · simp [State.holds, reply_link_ne _ _ _ _ hq]

theorem accepted_holds (s : State) (p q : Port) (r : Request) (code : Byte) :
    (s.accepted p r).holds q code = s.holds q code := by
  by_cases hq : q = p
  · subst hq; simp [State.holds]
  · simp [State.holds, accepted_link_ne _ _ hq]

/-- Entry into abort as one update of the port's link unit, the notice, and the dispositions (R192). -/
theorem enterAbort_eq (s : State) (p : Port) (c : AbortCause) (sticky : Bool) :
    s.enterAbort p c sticky
      = ((s.setLink p ((s.link p).aborted c sticky s.lineTime)).notify .portAborted
          [word p.number, word c.code]).dispose p := by
  unfold State.enterAbort State.answerHeld Link.flush Link.aborted
  cases h : (s.link p).held <;> simp

/-- A cause that reaches a port that is not aborted brings a full entry (R192). -/
theorem causeReaches_enters {s : State} {p : Port} (h : (s.link p).causes = []) (c : AbortCause) (sticky : Bool) :
    s.causeReaches p c sticky = s.enterAbort p c sticky := by
  simp [State.causeReaches, State.isAborted, h]

end Sys2Proof.Machine
end

