-- ==== Sys2Proof/Laws/Takes.lean ====
section
/-! SUPPORT. What the taking of a request does to the link units: on its own port it adds exactly one to what the reply
queue owes (a reply, or the entry kept for a request now held); every other port goes through `Link.Follows`. -/

namespace Sys2Proof.Machine

open Sys2Proof

/-- The taking of a request on port `p`, from a state in which the port holds none, has come to `t`. -/
structure State.Took (s : State) (p : Port) (t : State) : Prop where
  others : ∀ q, q ≠ p → (s.link q).Follows (t.link q)
  requests : (t.link p).requests = (s.link p).requests ∨ (t.link p).requests = []
  owed : (t.link p).owed = (s.link p).owed + 1
  held : ∀ h, (t.link p).held = some h → p.mayHold h.request.code = true ∧ (t.link p).causes = []

theorem State.Took.then {s t u : State} {p : Port} (h : s.Took p t) (k : t.Follows u) : s.Took p u where
  others q hq := (h.others q hq).trans (k.link q)
  requests := by
    rcases (k.link p).requests with e | e
    · rw [e]; exact h.requests
    · exact .inr e
  owed := by rw [(k.link p).owed, h.owed]
  held x hx := by
    have e : (u.link p).held = (t.link p).held := by
      rcases (k.link p).held with e | e
      · exact e
      · rw [e] at hx; cases hx
    have c : (u.link p).causes = (t.link p).causes := by
      rcases (k.link p).causes with c | c
      · rw [c] at hx; cases hx
      · exact c
    rw [c]
    exact h.held x (e ▸ hx)

theorem State.Follows.held_none {s t : State} (h : s.Follows t) {p : Port} (e : (s.link p).held = none) :
    (t.link p).held = none := by
  rcases (h.link p).held with k | k
  · rw [k, e]
  · exact k

/-- A request that is answered at once. -/
theorem State.Follows.reply {s u : State} {p : Port} (k : s.Follows u) (free : (s.link p).held = none)
    (tag : Byte) (code : ReplyCode) (ws : List Word) : s.Took p (u.reply p tag code ws) where
  others q hq := by rw [reply_link_ne _ _ _ _ hq]; exact k.link q
  requests := by rw [reply_link]; exact (k.link p).requests
  owed := by
    have := (k.link p).owed
    rw [reply_link]
    simp only [Link.owed, List.length_append, List.length_singleton] at *
    omega
  held x hx := by
    rw [reply_link] at hx
    rw [k.held_none free] at hx
    cases hx

theorem took_reply {s : State} {p : Port} (free : (s.link p).held = none) (tag : Byte) (code : ReplyCode)
    (ws : List Word) : s.Took p (s.reply p tag code ws) := State.Follows.reply (.refl s) free tag code ws

/-- A request that is held. -/
theorem took_hold {s : State} {p : Port} (free : (s.link p).held = none) (serving : (s.link p).causes = [])
    {r : Request} (may : p.mayHold r.code = true) (e : Option Time) : s.Took p (s.hold p r e) where
  others q hq := by rw [hold_link_ne _ _ _ hq]; exact .refl _
  requests := by rw [hold_link]; exact .inl rfl
  owed := by rw [hold_link]; simp [Link.owed, free, bit]
  held x hx := by
    rw [hold_link] at hx ⊢
    simp only [Option.some.injEq] at hx
    subst hx
    exact ⟨may, serving⟩

/-- A request whose word count fails, or that the mode refuses, and so on: one step of a handler's checks. -/
theorem took_ite {s : State} {p : Port} {c : Prop} [Decidable c] {a b : State} (ha : s.Took p a) (hb : s.Took p b) :
    s.Took p (if c then a else b) := by
  split <;> assumption


/-! ## The handlers, one by one -/

theorem head_mayHold_reserve (h : Head) : h.port.mayHold Command.reserve.code = true := by cases h <;> decide

theorem head_mayHold_pick (h : Head) : h.port.mayHold Command.pick.code = true := by cases h <;> decide

theorem head_mayHold_place (h : Head) : h.port.mayHold Command.place.code = true := by cases h <;> decide

theorem takeReserve_took {s : State} {h : Head} {r : Request} (free : (s.link h.port).held = none)
    (serving : (s.link h.port).causes = []) (code : r.code = Command.reserve.code) :
    s.Took h.port (takeReserve h r s) := by
  unfold takeReserve
  refine took_ite (took_reply free ..) (took_ite (took_reply free ..) (took_ite (took_reply free ..) ?_))
  split
  · next ans t e =>
    unfold State.tryReserve at e
    split at e <;> [cases e; skip]
    split at e <;> [cases e; skip]
    simp only [Option.some.injEq] at e
    have e := congrArg Prod.snd e
    simp only at e
    subst e
    exact State.Follows.reply (.of_links (by simp)) free ..
  · exact took_ite (took_reply free ..) (took_hold free serving (by rw [code]; exact head_mayHold_reserve h) _)

theorem takeRelease_took {s : State} {h : Head} {r : Request} (free : (s.link h.port).held = none) :
    s.Took h.port (takeRelease h r s) := by
  unfold takeRelease
  refine took_ite (took_reply free ..) (took_ite (took_reply free ..) ?_)
  split
  · exact took_reply free ..
  · exact (State.Follows.reply (.of_links (by simp)) free ..).then (wakeReserves_follows _)

theorem takeDiscard_took {s : State} {h : Head} {r : Request} (free : (s.link h.port).held = none) :
    s.Took h.port (takeDiscard h r s) := by
  unfold takeDiscard
  refine took_ite (took_reply free ..) (took_ite (took_reply free ..) (took_ite (took_reply free ..) ?_))
  split
  · exact took_reply free ..
  · exact ((State.Follows.reply (.of_links (by simp)) free ..).then (siteWakes_follows _)).then (wakeReserves_follows _)

theorem takePick_took {s : State} {h : Head} {r : Request} (free : (s.link h.port).held = none)
    (serving : (s.link h.port).causes = []) (code : r.code = Command.pick.code) : s.Took h.port (takePick h r s) := by
  unfold takePick
  refine took_ite (took_reply free ..) (took_ite (took_reply free ..) ?_)
  split
  · exact took_reply free ..
  · refine took_ite (took_reply free ..) ?_
    exact ((took_hold free serving (by rw [code]; exact head_mayHold_pick h) none).then (.of_links (by simp))).then
      (stationWakes_follows _)

theorem takePicked_took {s : State} {h : Head} {r : Request} (free : (s.link h.port).held = none) :
    s.Took h.port (takePicked h r s) := by
  unfold takePicked
  refine took_ite (took_reply free ..) (took_ite (took_reply free ..) ?_)
  split
  · exact took_reply free ..
  · exact (State.Follows.reply (.of_links (by simp)) free ..).then (stationWakes_follows _)

theorem takePickFail_took {s : State} {h : Head} {r : Request} (free : (s.link h.port).held = none) :
    s.Took h.port (takePickFail h r s) := by
  unfold takePickFail
  refine took_ite (took_reply free ..) (took_ite (took_reply free ..) (took_ite (took_reply free ..) ?_))
  split
  · exact took_reply free ..
  · refine took_ite ?_ (took_ite ?_ ?_)
    all_goals exact (State.Follows.reply (.of_links (by simp)) free ..).then (stationWakes_follows _)

theorem State.Took.startWait {s t : State} {p : Port} (h : s.Took p t) (e : Time) : s.Took p (t.startWait p e) := by
  unfold State.startWait
  split
  · exact h
  · next x hx =>
    constructor
    · intro q hq; rw [setLink_link_ne _ _ hq]; exact h.others q hq
    · rw [setLink_link]; exact h.requests
    · rw [setLink_link, ← h.owed]; simp [Link.owed, hx]
    · intro y hy
      rw [setLink_link] at hy ⊢
      simp only [Option.some.injEq] at hy
      subst hy
      exact h.held x hx

theorem takePlace_took {s : State} {h : Head} {r : Request} (free : (s.link h.port).held = none)
    (serving : (s.link h.port).causes = []) (code : r.code = Command.place.code) : s.Took h.port (takePlace h r s) := by
  unfold takePlace
  refine took_ite (took_reply free ..) (took_ite (took_reply free ..) ?_)
  split
  · exact took_reply free ..
  · next c _ =>
    refine took_ite (took_reply free ..) ?_
    have k := ((took_hold free serving (r := r) (by rw [code]; exact head_mayHold_place h) none).then
      (.of_links (t := (s.hold h.port r none).setPlacement { (s.hold h.port r none).placement with
        queue := (s.hold h.port r none).placement.queue ++ [Placer.mk h c.die c.wafer] }) (by simp))).then (servePlacers_follows _)
    refine took_ite (took_ite ?_ ?_) k
    · exact (k.then (.of_links (by simp))).then (answerHeld_follows ..)
    · exact k.startWait _

theorem takeBonded_took {s : State} {h : Head} {r : Request} (free : (s.link h.port).held = none) :
    s.Took h.port (takeBonded h r s) := by
  unfold takeBonded
  refine took_ite (took_reply free ..) (took_ite (took_reply free ..) ?_)
  split
  · exact took_reply free ..
  · refine took_ite ?_ (took_reply free ..)
    split
    · exact (State.Follows.reply (.of_links (by simp)) free ..).then (siteWakes_follows _)
    · exact took_reply free ..

theorem takeBondFail_took {s : State} {h : Head} {r : Request} (free : (s.link h.port).held = none) :
    s.Took h.port (takeBondFail h r s) := by
  unfold takeBondFail
  refine took_ite (took_reply free ..) (took_ite (took_reply free ..) (took_ite (took_reply free ..) ?_))
  split
  · exact took_reply free ..
  · refine took_ite ?_ (took_reply free ..)
    split
    · refine took_ite ?_ ?_
      · exact (State.Follows.reply (.of_links (by simp)) free ..).then (siteWakes_follows _)
      · exact ((State.Follows.reply (.of_links (by simp)) free ..).then (siteWakes_follows _)).then
          (wakeReserves_follows _)
    · exact took_reply free ..

theorem takeClaims_took {s : State} {h : Head} {r : Request} (free : (s.link h.port).held = none) :
    s.Took h.port (takeClaims h r s) := by
  unfold takeClaims
  exact took_ite (took_reply free ..) (took_reply free ..)

theorem takeAwaitOrder_took {s : State} {r : Request} (free : (s.link .table).held = none)
    (serving : (s.link .table).causes = []) (code : r.code = Command.awaitOrder.code) :
    s.Took .table (takeAwaitOrder r s) := by
  unfold takeAwaitOrder
  refine took_ite (took_reply free ..) (took_ite (took_reply free ..) ?_)
  exact (took_hold free serving (by rw [code]; decide) none).then (deliver_follows _)

theorem presentAccepted_follows (s : State) (o : Order) (handout : Time) (ex ey : Int) :
    s.Follows (s.presentAccepted o handout ex ey) := by
  unfold State.presentAccepted
  exact .trans (.of_links (by simp)) (answerHeld_follows ..)

theorem presentOffset_follows (s : State) (o : Order) : s.Follows (s.presentOffset o) := by
  unfold State.presentOffset
  exact .trans (.of_links (by simp)) (answerHeld_follows ..)

theorem presentNotFound_follows (s : State) (o : Order) : s.Follows (s.presentNotFound o) := by
  unfold State.presentNotFound
  exact .trans (.of_links (by simp)) (answerHeld_follows ..)

theorem presentMotion_follows (s : State) (o : Order) : s.Follows (s.presentMotion o) := by
  unfold State.presentMotion
  exact .trans (.of_links (by simp)) (answerHeld_follows ..)

theorem takePresented_took {s : State} {r : Request} (free : (s.link .table).held = none) :
    s.Took .table (takePresented r s) := by
  unfold takePresented
  refine took_ite (took_reply free ..) (took_ite (took_reply free ..) ?_)
  split
  · exact took_reply free ..
  · refine took_ite ?_ ?_
    · exact State.Follows.reply (presentAccepted_follows ..) free ..
    · exact (State.Follows.reply (presentOffset_follows ..) free ..).then (stationWakes_follows _)

theorem takePresentFail_took {s : State} {r : Request} (free : (s.link .table).held = none) :
    s.Took .table (takePresentFail r s) := by
  unfold takePresentFail
  refine took_ite (took_reply free ..) (took_ite (took_reply free ..) (took_ite (took_reply free ..) ?_))
  split
  · exact took_reply free ..
  · refine took_ite ?_ ?_
    · exact (State.Follows.reply (presentNotFound_follows ..) free ..).then (stationWakes_follows _)
    · exact (State.Follows.reply (presentMotion_follows ..) free ..).then (stationWakes_follows _)

theorem takeNextSite_took {s : State} {r : Request} (free : (s.link .dispense).held = none)
    (serving : (s.link .dispense).causes = []) (code : r.code = Command.nextSite.code) :
    s.Took .dispense (takeNextSite r s) := by
  unfold takeNextSite
  refine took_ite (took_reply free ..) (took_ite (took_reply free ..) (took_ite (took_reply free ..) ?_))
  split
  · exact State.Follows.reply (.of_links (by simp)) free ..
  · exact took_ite (took_reply free ..) (took_hold free serving (by rw [code]; decide) _)

theorem takeDispensed_took {s : State} {r : Request} (free : (s.link .dispense).held = none) :
    s.Took .dispense (takeDispensed r s) := by
  unfold takeDispensed
  refine took_ite (took_reply free ..) (took_ite (took_reply free ..) ?_)
  split
  · exact took_reply free ..
  · refine took_ite ?_ (took_reply free ..)
    split
    · exact took_reply free ..
    · exact (State.Follows.reply (.of_links (by simp)) free ..).then (siteWakes_follows _)

theorem takeDispenseFail_took {s : State} {r : Request} (free : (s.link .dispense).held = none) :
    s.Took .dispense (takeDispenseFail r s) := by
  unfold takeDispenseFail
  refine took_ite (took_reply free ..) (took_ite (took_reply free ..) (took_ite (took_reply free ..) ?_))
  split
  · exact took_reply free ..
  · refine took_ite ?_ (took_reply free ..)
    split
    · exact took_reply free ..
    · refine took_ite ?_ ?_
      all_goals exact (State.Follows.reply (.of_links (by simp)) free ..).then (siteWakes_follows _)

theorem takeMapOpen_took {s : State} {r : Request} (free : (s.link .cell).held = none) :
    s.Took .cell (takeMapOpen r s) := by
  unfold takeMapOpen
  refine took_ite (took_reply free ..) (took_ite (took_reply free ..) (took_ite (took_reply free ..) ?_))
  split
  · exact took_reply free ..
  · exact State.Follows.reply (.of_links (by simp)) free ..

theorem takeMapDie_took {s : State} {r : Request} (free : (s.link .cell).held = none) :
    s.Took .cell (takeMapDie r s) := by
  unfold takeMapDie
  refine took_ite (took_reply free ..) ?_
  split
  · exact took_reply free ..
  · exact took_reply free ..
  · exact took_ite (took_reply free ..) (State.Follows.reply (.of_links (by simp)) free ..)

theorem takeMapClose_took {s : State} {r : Request} (free : (s.link .cell).held = none) :
    s.Took .cell (takeMapClose r s) := by
  unfold takeMapClose
  refine took_ite (took_reply free ..) ?_
  split
  · exact took_reply free ..
  · exact took_reply free ..
  · exact took_ite (took_reply free ..)
      ((State.Follows.reply (.of_links (by simp)) free ..).then (wakeReserves_follows _))

theorem takeMapAbandon_took {s : State} {r : Request} (free : (s.link .cell).held = none) :
    s.Took .cell (takeMapAbandon r s) := by
  unfold takeMapAbandon
  refine took_ite (took_reply free ..) ?_
  split
  · exact took_reply free ..
  · exact took_reply free ..
  · exact State.Follows.reply (.of_links (by simp)) free ..

theorem takeMapAlign_took {s : State} {r : Request} (free : (s.link .cell).held = none) :
    s.Took .cell (takeMapAlign r s) := by
  unfold takeMapAlign
  refine took_ite (took_reply free ..) ?_
  split
  · exact took_reply free ..
  · refine took_ite (took_reply free ..) ?_
    split
    · exact took_reply free ..
    · exact State.Follows.reply (.of_links (by simp)) free ..

theorem takeWaferClose_took {s : State} {r : Request} (free : (s.link .cell).held = none) :
    s.Took .cell (takeWaferClose r s) := by
  unfold takeWaferClose
  refine took_ite (took_reply free ..) ?_
  split
  · exact took_reply free ..
  · exact took_ite (took_reply free ..) (State.Follows.reply (.of_links (by simp)) free ..)

theorem takeResolve_took {s : State} {r : Request} (free : (s.link .cell).held = none) :
    s.Took .cell (takeResolve r s) := by
  unfold takeResolve
  refine took_ite (took_reply free ..) ?_
  split
  · exact took_reply free ..
  · refine took_ite (took_reply free ..) ?_
    split
    · exact took_reply free ..
    · refine took_ite (took_reply free ..) (took_ite ?_ ?_)
      all_goals exact State.Follows.reply (.of_links (by simp)) free ..

theorem takeReadDie_took {s : State} {r : Request} (free : (s.link .cell).held = none) :
    s.Took .cell (takeReadDie r s) := by
  unfold takeReadDie
  refine took_ite (took_reply free ..) ?_
  split
  · exact took_reply free ..
  · refine took_ite (took_reply free ..) ?_
    split <;> exact took_reply free ..

theorem takeStripLoad_took {s : State} {r : Request} (free : (s.link .cell).held = none) :
    s.Took .cell (takeStripLoad r s) := by
  unfold takeStripLoad
  refine took_ite (took_reply free ..) ?_
  split
  · exact took_reply free ..
  · refine took_ite (took_reply free ..) (took_ite (took_reply free ..) ?_)
    exact State.Follows.reply (.of_links (by simp)) free ..

theorem badOnTrack_follows (s : State) (p : Nat) (c : Column) (mask : Byte) : s.Follows (s.badOnTrack p c mask) := by
  unfold State.badOnTrack
  simp only
  split
  · exact .of_links (by simp)
  · exact .trans (.of_links (by simp)) (serveNextSite_follows _)

theorem takeStripBad_took {s : State} {r : Request} (free : (s.link .cell).held = none) :
    s.Took .cell (takeStripBad r s) := by
  unfold takeStripBad
  refine took_ite (took_reply free ..) (took_ite (took_reply free ..) ?_)
  split
  · split
    · exact took_reply free ..
    · exact State.Follows.reply (badOnTrack_follows ..) free ..
  · split
    · exact took_reply free ..
    · refine took_ite (took_reply free ..) (took_ite (took_reply free ..) ?_)
      exact State.Follows.reply (.of_links (by simp)) free ..

theorem clearTrack_follows (s : State) : s.Follows s.clearTrack := by
  unfold State.clearTrack
  exact .trans (.of_links (by simp)) (serveNextSite_follows _)

theorem becomeStill_follows (s : State) : s.Follows s.becomeStill := by
  unfold State.becomeStill
  exact .trans (.trans (.of_links (by simp)) (serveNextSite_follows _)) (servePlacers_follows _)

theorem takeTrackClear_took {s : State} {r : Request} (free : (s.link .cell).held = none) :
    s.Took .cell (takeTrackClear r s) := by
  unfold takeTrackClear
  refine took_ite (took_reply free ..) (took_ite (took_reply free ..) (took_ite (took_reply free ..) ?_))
  exact State.Follows.reply (clearTrack_follows _) free ..

theorem drainTest_follows (s : State) : s.Follows s.drainTest := .of_links (by simp)

theorem takeIndexRequest_took {s : State} {r : Request} (free : (s.link .cell).held = none) :
    s.Took .cell (takeIndexRequest r s) := by
  unfold takeIndexRequest
  refine took_ite (took_reply free ..) (took_ite (took_reply free ..) (took_ite (took_reply free ..)
    (took_ite (took_reply free ..) ?_)))
  refine State.Took.then ?_ (drainTest_follows _)
  have k : s.Follows (s.setTrack { s.track with phase := .draining (natAt r.words 0) }) := .of_links rfl
  exact k.reply free ..

theorem takeIndexDone_took {s : State} {r : Request} (free : (s.link .cell).held = none) :
    s.Took .cell (takeIndexDone r s) := by
  unfold takeIndexDone
  refine took_ite (took_reply free ..) ?_
  split
  · exact took_reply free ..
  · exact took_reply free ..
  · exact (State.Follows.reply (.of_links (by simp)) free ..).then (becomeStill_follows _)

theorem takeIndexCancel_took {s : State} {r : Request} (free : (s.link .cell).held = none) :
    s.Took .cell (takeIndexCancel r s) := by
  unfold takeIndexCancel
  refine took_ite (took_reply free ..) ?_
  split
  · exact took_reply free ..
  · exact took_reply free ..
  · exact (took_reply free ..).then (becomeStill_follows _)

theorem takeReadSite_took {s : State} {r : Request} (free : (s.link .cell).held = none) :
    s.Took .cell (takeReadSite r s) := by
  unfold takeReadSite
  exact took_ite (took_reply free ..) (took_ite (took_reply free ..) (took_reply free ..))

theorem writeSetting_follows (s : State) (id : Nat) (v : Int) : s.Follows (s.writeSetting id v) :=
  .trans (.of_links (by simp)) (settingWritten_follows ..)

theorem takeSet_took {s : State} {r : Request} (free : (s.link .cell).held = none) :
    s.Took .cell (takeSet r s) := by
  unfold takeSet
  refine took_ite (took_reply free ..) (took_ite (took_reply free ..) ?_)
  split
  · exact took_reply free ..
  · exact State.Follows.reply (writeSetting_follows ..) free ..

theorem takeGet_took {s : State} {r : Request} (free : (s.link .cell).held = none) :
    s.Took .cell (takeGet r s) := by
  unfold takeGet
  exact took_ite (took_reply free ..) (took_ite (took_reply free ..) (took_reply free ..))

/-! ### Changes of mode, and the causes they bring and release -/

/-- An aborted port holds no request. -/
structure State.AbortFree (s : State) : Prop where
  held : ∀ p, (s.link p).causes ≠ [] → (s.link p).held = none

theorem State.Follows.abortFree {s t : State} (h : s.Follows t) (k : s.AbortFree) : t.AbortFree := by
  constructor
  intro p hp
  rcases (h.link p).causes with e | e
  · exact e
  · exact h.held_none (k.held p (e ▸ hp))

theorem unstick_follows {l : Link} (c : AbortCause) (legal : l.causes ≠ [] → l.held = none) :
    l.Follows (l.unstick c) := by
  refine ⟨.inl rfl, rfl, .inl rfl, ?_⟩
  by_cases e : l.causes = []
  · right; simp [Link.unstick, e]
  · exact .inl (legal e)

theorem setLink_unstick_follows {s : State} (k : s.AbortFree) (p : Port) (c : AbortCause) :
    s.Follows (s.setLink p ((s.link p).unstick c)) := .of_setLink (unstick_follows c (k.held p))

theorem unstickHalt_follows {s : State} (k : s.AbortFree) : s.Follows s.unstickHalt := by
  simp only [State.unstickHalt, haltPorts, List.foldl]
  have h1 := setLink_unstick_follows k .headA .lineHalt
  have h2 := h1.trans (setLink_unstick_follows (h1.abortFree k) .headB .lineHalt)
  have h3 := h2.trans (setLink_unstick_follows (h2.abortFree k) .table .lineHalt)
  exact h3.trans (setLink_unstick_follows (h3.abortFree k) .dispense .lineHalt)

theorem changeMode_follows {s : State} (k : s.AbortFree) (m : LineMode) : s.Follows (s.changeMode m) := by
  have h : s.Follows { s with mode := m } := .of_links rfl
  unfold State.changeMode
  split
  · exact .of_links rfl
  · exact h.trans (unstickHalt_follows (h.abortFree k))
  all_goals exact h

theorem requestHalt_follows {s : State} (k : s.AbortFree) (p : Port) : s.Follows (s.requestHalt p) := by
  unfold State.requestHalt
  split
  · exact causeReaches_follows (k.held p) ..
  · exact .of_setLink ⟨.inl rfl, rfl, .inl rfl, .inr rfl⟩

theorem requestHalts_follows {s : State} (k : s.AbortFree) : s.Follows s.requestHalts := by
  simp only [State.requestHalts, haltPorts, List.foldl]
  have h1 := requestHalt_follows k .headA
  have h2 := h1.trans (requestHalt_follows (h1.abortFree k) .headB)
  have h3 := h2.trans (requestHalt_follows (h2.abortFree k) .table)
  exact h3.trans (requestHalt_follows (h3.abortFree k) .dispense)

theorem disableHead_follows {s : State} (k : s.AbortFree) (h : Head) : s.Follows (s.disableHead h) := by
  have e : s.Follows (s.setEnabled h false) := .of_links rfl
  unfold State.disableHead
  split
  · exact e.trans (causeReaches_follows ((e.abortFree k).held h.port) ..)
  · exact .refl s

theorem enableHead_follows {s : State} (k : s.AbortFree) (h : Head) : s.Follows (s.enableHead h) := by
  unfold State.enableHead
  split
  · exact .refl s
  · have e : s.Follows (s.setEnabled h true) := .of_links rfl
    exact e.trans (setLink_unstick_follows (e.abortFree k) h.port .headDisabled)

theorem enterMode_took {s : State} {r : Request} {m : LineMode} (free : (s.link .cell).held = none)
    (k : s.AbortFree) :
    s.Took .cell (s.enterMode r m) := by
  unfold State.enterMode
  exact State.Follows.reply (changeMode_follows k ..) free ..

theorem takeStart_took {s : State} {r : Request} (free : (s.link .cell).held = none)
    (k : s.AbortFree) :
    s.Took .cell (takeStart r s) := by
  unfold takeStart
  refine took_ite (took_reply free ..) (took_ite (took_reply free ..) ?_)
  split
  · exact took_reply free ..
  · exact enterMode_took free k

theorem takeDrain_took {s : State} {r : Request} (free : (s.link .cell).held = none)
    (k : s.AbortFree) :
    s.Took .cell (takeDrain r s) := by
  unfold takeDrain
  exact took_ite (took_reply free ..) (took_ite (enterMode_took free k) (took_reply free ..))

theorem takeResume_took {s : State} {r : Request} (free : (s.link .cell).held = none)
    (k : s.AbortFree) :
    s.Took .cell (takeResume r s) := by
  unfold takeResume
  exact took_ite (took_reply free ..) (took_ite (enterMode_took free k) (took_reply free ..))

theorem takeHalt_took {s : State} {r : Request} (free : (s.link .cell).held = none)
    (k : s.AbortFree) :
    s.Took .cell (takeHalt r s) := by
  unfold takeHalt
  refine took_ite (took_reply free ..) (took_ite ?_ (took_reply free ..))
  exact State.Follows.reply ((changeMode_follows k _).trans (requestHalts_follows ((changeMode_follows k _).abortFree k))) free ..

theorem takeStop_took {s : State} {r : Request} (free : (s.link .cell).held = none)
    (k : s.AbortFree) :
    s.Took .cell (takeStop r s) := by
  unfold takeStop
  exact took_ite (took_reply free ..)
    (took_ite (took_ite (enterMode_took free k) (took_reply free ..)) (took_reply free ..))

theorem takeReadStatus_took {s : State} {r : Request} (free : (s.link .cell).held = none) :
    s.Took .cell (takeReadStatus r s) := by
  unfold takeReadStatus
  refine took_ite (took_reply free ..) ?_
  split <;> exact took_reply free ..

theorem takeReadClaims_took {s : State} {r : Request} (free : (s.link .cell).held = none) :
    s.Took .cell (takeReadClaims r s) := by
  unfold takeReadClaims
  refine took_ite (took_reply free ..) ?_
  split <;> exact took_reply free ..

theorem takeReadStation_took {s : State} {r : Request} (free : (s.link .cell).held = none) :
    s.Took .cell (takeReadStation r s) := by
  unfold takeReadStation
  exact took_ite (took_reply free ..) (took_reply free ..)

theorem takeReadLog_took {s : State} {r : Request} (free : (s.link .cell).held = none) :
    s.Took .cell (takeReadLog r s) := by
  unfold takeReadLog
  refine took_ite (took_reply free ..) (took_ite (took_reply free ..) (took_ite (took_reply free ..) ?_))
  exact (State.Follows.reply (.of_links (by simp)) free ..).then (wakeReserves_follows _)

theorem takeReadNotices_took {s : State} {r : Request} (free : (s.link .cell).held = none) :
    s.Took .cell (takeReadNotices r s) := by
  unfold takeReadNotices
  refine took_ite (took_reply free ..) (took_ite (took_reply free ..) (took_ite (took_reply free ..) ?_))
  exact State.Follows.reply (.of_links (by simp)) free ..

theorem takeLampAck_took {s : State} {r : Request} (free : (s.link .cell).held = none) :
    s.Took .cell (takeLampAck r s) := by
  unfold takeLampAck
  have k : s.Follows { s with spoilLatch := false } := .of_links rfl
  exact took_ite (took_reply free ..) (k.reply free ..)

theorem takeHeadEnable_took {s : State} {r : Request} (free : (s.link .cell).held = none)
    (k : s.AbortFree) :
    s.Took .cell (takeHeadEnable r s) := by
  unfold takeHeadEnable
  refine took_ite (took_reply free ..) ?_
  split
  · exact took_reply free ..
  · refine took_ite ?_ (took_ite ?_ (took_reply free ..))
    · exact State.Follows.reply (disableHead_follows k ..) free ..
    · exact State.Follows.reply (enableHead_follows k ..) free ..

theorem takeForfeit_took {s : State} {r : Request} (free : (s.link .cell).held = none) :
    s.Took .cell (takeForfeit r s) := by
  unfold takeForfeit
  refine took_ite (took_reply free ..) ?_
  split
  · exact took_reply free ..
  · refine took_ite (took_reply free ..) ?_
    split
    · exact took_reply free ..
    · rename_i h _ _ c _
      have removed : s.Follows (s.removeClaim h c.die .carried) := .of_links (by simp)
      exact State.Follows.reply ((removed.trans (wakeReserves_follows _)).trans (.of_links (by simp))) free ..

theorem takeAbort_took {s : State} {p : Port} {r : Request} (free : (s.link p).held = none) :
    s.Took p (takeAbort p r s) := by
  unfold takeAbort
  exact took_ite (took_reply free ..) (State.Follows.reply (enterAbort_follows ..) free ..)

theorem takeClearAbort_took {s : State} {p : Port} {r : Request} (free : (s.link p).held = none) :
    s.Took p (takeClearAbort p r s) := by
  unfold takeClearAbort
  refine took_ite (took_reply free ..) (State.Follows.reply (.of_setLink ?_) free ..)
  exact ⟨.inl rfl, rfl, .inl rfl, .inl free⟩

theorem takePortStatus_took {s : State} {p : Port} {r : Request} (free : (s.link p).held = none) :
    s.Took p (takePortStatus p r s) := by
  unfold takePortStatus
  exact took_ite (took_reply free ..) (took_reply free ..)

theorem takeCancel_took {s : State} {p : Port} {r : Request} (free : (s.link p).held = none) :
    s.Took p (takeCancel p r s) := by
  unfold takeCancel
  refine took_ite (took_reply free ..) ?_
  split
  · exact took_reply free ..
  · next e => rw [free] at e; cases e

theorem onHead_took {s : State} {p : Port} {r : Request} {f : Head → Request → State → State}
    (free : (s.link p).held = none) (hf : ∀ h, h.port = p → s.Took h.port (f h r s)) : s.Took p (onHead p r f s) := by
  unfold onHead
  cases p with
  | headA => exact hf .A rfl
  | headB => exact hf .B rfl
  | cell => exact took_reply free ..
  | table => exact took_reply free ..
  | dispense => exact took_reply free ..

/-- A code names the request that has it (R188). -/
theorem code_of_ofCode {b : Byte} {c : Command} (h : Command.ofCode b = some c) : b = c.code := by
  have := List.find?_some h
  simp only [beq_iff_eq] at this
  exact this.symm

theorem code_of_command {p : Port} {b : Byte} {c : Command} (h : p.command b = some c) : b = c.code := by
  unfold Port.command at h
  split at h
  · exact code_of_ofCode h
  · cases h

/-- A command of a port's role, handed to its block in a state in which the port neither holds a request nor is
aborted: exactly one reply is owed more (R181, R182). -/
theorem takeCommand_took {s : State} {p : Port} {c : Command} {r : Request} (free : (s.link p).held = none)
    (serving : (s.link p).causes = []) (k : s.AbortFree) (role : p.command r.code = some c) :
    s.Took p (takeCommand p c r s) := by
  have code := code_of_command role
  rw [code] at role
  cases c with
  | cancel => exact takeCancel_took free
  | portStatus => exact takePortStatus_took free
  | abort => exact takeAbort_took free
  | clearAbort => exact takeClearAbort_took free
  | reset => exact took_reply free ..
  | reserve => exact onHead_took free fun h hp => by subst hp; exact takeReserve_took free serving code
  | release => exact onHead_took free fun h hp => by subst hp; exact takeRelease_took free
  | pick => exact onHead_took free fun h hp => by subst hp; exact takePick_took free serving code
  | picked => exact onHead_took free fun h hp => by subst hp; exact takePicked_took free
  | pickFail => exact onHead_took free fun h hp => by subst hp; exact takePickFail_took free
  | place => exact onHead_took free fun h hp => by subst hp; exact takePlace_took free serving code
  | bonded => exact onHead_took free fun h hp => by subst hp; exact takeBonded_took free
  | bondFail => exact onHead_took free fun h hp => by subst hp; exact takeBondFail_took free
  | discard => exact onHead_took free fun h hp => by subst hp; exact takeDiscard_took free
  | claims => exact onHead_took free fun h hp => by subst hp; exact takeClaims_took free
  | set =>
    cases p with
    | cell => exact takeSet_took free
    | _ => exact absurd role (by decide)
  | get =>
    cases p with
    | cell => exact takeGet_took free
    | _ => exact absurd role (by decide)
  | start =>
    cases p with
    | cell => exact takeStart_took free k
    | _ => exact absurd role (by decide)
  | drain =>
    cases p with
    | cell => exact takeDrain_took free k
    | _ => exact absurd role (by decide)
  | resume =>
    cases p with
    | cell => exact takeResume_took free k
    | _ => exact absurd role (by decide)
  | halt =>
    cases p with
    | cell => exact takeHalt_took free k
    | _ => exact absurd role (by decide)
  | stop =>
    cases p with
    | cell => exact takeStop_took free k
    | _ => exact absurd role (by decide)
  | mapOpen =>
    cases p with
    | cell => exact takeMapOpen_took free
    | _ => exact absurd role (by decide)
  | mapDie =>
    cases p with
    | cell => exact takeMapDie_took free
    | _ => exact absurd role (by decide)
  | mapClose =>
    cases p with
    | cell => exact takeMapClose_took free
    | _ => exact absurd role (by decide)
  | mapAbandon =>
    cases p with
    | cell => exact takeMapAbandon_took free
    | _ => exact absurd role (by decide)
  | mapAlign =>
    cases p with
    | cell => exact takeMapAlign_took free
    | _ => exact absurd role (by decide)
  | waferClose =>
    cases p with
    | cell => exact takeWaferClose_took free
    | _ => exact absurd role (by decide)
  | resolve =>
    cases p with
    | cell => exact takeResolve_took free
    | _ => exact absurd role (by decide)
  | readDie =>
    cases p with
    | cell => exact takeReadDie_took free
    | _ => exact absurd role (by decide)
  | stripLoad =>
    cases p with
    | cell => exact takeStripLoad_took free
    | _ => exact absurd role (by decide)
  | stripBad =>
    cases p with
    | cell => exact takeStripBad_took free
    | _ => exact absurd role (by decide)
  | trackClear =>
    cases p with
    | cell => exact takeTrackClear_took free
    | _ => exact absurd role (by decide)
  | indexRequest =>
    cases p with
    | cell => exact takeIndexRequest_took free
    | _ => exact absurd role (by decide)
  | indexDone =>
    cases p with
    | cell => exact takeIndexDone_took free
    | _ => exact absurd role (by decide)
  | indexCancel =>
    cases p with
    | cell => exact takeIndexCancel_took free
    | _ => exact absurd role (by decide)
  | readSite =>
    cases p with
    | cell => exact takeReadSite_took free
    | _ => exact absurd role (by decide)
  | readStatus =>
    cases p with
    | cell => exact takeReadStatus_took free
    | _ => exact absurd role (by decide)
  | readClaims =>
    cases p with
    | cell => exact takeReadClaims_took free
    | _ => exact absurd role (by decide)
  | readStation =>
    cases p with
    | cell => exact takeReadStation_took free
    | _ => exact absurd role (by decide)
  | readLog =>
    cases p with
    | cell => exact takeReadLog_took free
    | _ => exact absurd role (by decide)
  | readNotices =>
    cases p with
    | cell => exact takeReadNotices_took free
    | _ => exact absurd role (by decide)
  | headEnable =>
    cases p with
    | cell => exact takeHeadEnable_took free k
    | _ => exact absurd role (by decide)
  | forfeit =>
    cases p with
    | cell => exact takeForfeit_took free
    | _ => exact absurd role (by decide)
  | lampAck =>
    cases p with
    | cell => exact takeLampAck_took free
    | _ => exact absurd role (by decide)
  | awaitOrder =>
    cases p with
    | table => exact takeAwaitOrder_took free serving code
    | _ => exact absurd role (by decide)
  | presented =>
    cases p with
    | table => exact takePresented_took free
    | _ => exact absurd role (by decide)
  | presentFail =>
    cases p with
    | table => exact takePresentFail_took free
    | _ => exact absurd role (by decide)
  | nextSite =>
    cases p with
    | dispense => exact takeNextSite_took free serving code
    | _ => exact absurd role (by decide)
  | dispensed =>
    cases p with
    | dispense => exact takeDispensed_took free
    | _ => exact absurd role (by decide)
  | dispenseFail =>
    cases p with
    | dispense => exact takeDispenseFail_took free
    | _ => exact absurd role (by decide)

end Sys2Proof.Machine
end

