-- ==== Sys2Proof/Laws/Settle.lean ====
section
/-! SUPPORT. The laws of the link units over a whole event: the taking of one queued request, and `settle`, which takes
them until no port can. The queues stay within their capacities, the slots stay legal, and nothing is left to take. -/

namespace Sys2Proof.Machine

open Sys2Proof

/-! ## One taking -/

theorem clearFresh_follows (s : State) (p : Port) : s.Follows (s.clearFresh p) :=
  .of_setLink ⟨.inl rfl, rfl, .inl rfl, .inr rfl⟩

theorem State.Follows.took {s t u : State} {p : Port} (h : s.Follows t) (k : t.Took p u) : s.Took p u where
  others q hq := (h.link q).trans (k.others q hq)
  requests := by
    rcases k.requests with e | e
    · rw [e]; exact (h.link p).requests
    · exact .inr e
  owed := by rw [k.owed, (h.link p).owed]
  held := k.held

/-- A queued request taken by a port that holds none (R181, R194). -/
theorem take_took {s : State} {p : Port} (r : Request) (free : (s.link p).held = none) (k : s.AbortFree) :
    s.Took p (take p r s) := by
  have hf : ((s.clearFresh p).link p).held = none := by rw [State.clearFresh, setLink_link]; exact free
  refine (clearFresh_follows s p).took ?_
  unfold take
  simp only
  split
  · exact took_reply hf ..
  · next c role =>
    split
    · exact took_reply hf ..
    · next h =>
      by_cases e : ((s.clearFresh p).link p).causes = []
      · exact takeCommand_took hf e ((clearFresh_follows s p).abortFree k) role
      · have hc : c = .clearAbort := by
          by_contra hne
          apply h
          have : (s.clearFresh p).isAborted p = true := by rw [State.isAborted]; simpa using e
          simp [this, hne]
        subst hc
        exact takeClearAbort_took hf

theorem HeldLegal_abortFree {s : State} (h : s.HeldLegal) : s.AbortFree := by
  constructor
  intro p hp
  cases e : (s.link p).held with
  | none => rfl
  | some x => exact absurd (h p x e).2 hp

/-! ## What follows keeps, and what a taking keeps -/

/-- The link units' laws in one (R179, R180, R182 to R184). -/
structure State.LinksSound (s : State) : Prop where
  bounded : s.LinksBounded
  legal : s.HeldLegal

theorem State.LinksSound.follows {s t : State} (h : s.LinksSound) (k : s.Follows t) : t.LinksSound where
  bounded p := by
    refine ⟨?_, by rw [(k.link p).owed]; exact (h.bounded p).2⟩
    rcases (k.link p).requests with e | e
    · rw [e]; exact (h.bounded p).1
    · rw [e]; exact Nat.zero_le _
  legal p x hx := by
    have e : (t.link p).held = (s.link p).held := by
      rcases (k.link p).held with e | e
      · exact e
      · rw [e] at hx; cases hx
    rcases (k.link p).causes with c | c
    · rw [c] at hx; cases hx
    · rw [c]; exact h.legal p x (e ▸ hx)

theorem State.LinksSound.took {s t : State} {p : Port} (h : s.LinksSound) (k : s.Took p t)
    (room : (s.link p).owed < Config.replyCapacity) : t.LinksSound where
  bounded q := by
    by_cases hq : q = p
    · subst hq
      refine ⟨?_, by rw [k.owed]; exact room⟩
      rcases k.requests with e | e
      · rw [e]; exact (h.bounded q).1
      · rw [e]; exact Nat.zero_le _
    · refine ⟨?_, by rw [(k.others q hq).owed]; exact (h.bounded q).2⟩
      rcases (k.others q hq).requests with e | e
      · rw [e]; exact (h.bounded q).1
      · rw [e]; exact Nat.zero_le _
  legal q x hx := by
    by_cases hq : q = p
    · subst hq; exact k.held x hx
    · have f := k.others q hq
      have e : (t.link q).held = (s.link q).held := by
        rcases f.held with e | e
        · exact e
        · rw [e] at hx; cases hx
      rcases f.causes with c | c
      · rw [c] at hx; cases hx
      · rw [c]; exact h.legal q x (e ▸ hx)

/-! ## The oldest request of a port that can take it -/

theorem canTake_iff (l : Link) :
    l.canTake = true ↔ l.requests ≠ [] ∧ l.held = none ∧ l.replies.length ≤ 7 := by
  simp [Link.canTake, and_assoc]

/-- A queue that shortens, with no other lengthened, leaves fewer requests waiting. -/
theorem queued_lt_of {s u : State} {p : Port} (hp : (u.link p).requests.length < (s.link p).requests.length)
    (hq : ∀ q, q ≠ p → (u.link q).requests.length ≤ (s.link q).requests.length) : u.queued < s.queued := by
  rw [queued_eq, queued_eq]
  have le : ∀ q, (u.link q).requests.length ≤ (s.link q).requests.length := by
    intro q
    by_cases h : q = p
    · subst h; exact Nat.le_of_lt hp
    · exact hq q h
  have h1 := le .cell
  have h2 := le .headA
  have h3 := le .headB
  have h4 := le .table
  have h5 := le .dispense
  cases p <;> omega

theorem takeOldest_took {s : State} {p : Port} (h : s.LinksSound) (can : (s.link p).canTake = true) :
    (s.takeOldest p).LinksSound ∧ (s.takeOldest p).queued < s.queued := by
  obtain ⟨hr, hf, hl⟩ := (canTake_iff _).1 can
  unfold State.takeOldest
  cases e : (s.link p).requests with
  | nil => exact absurd e hr
  | cons r rest =>
    simp only
    have hlink : (s.setLink p { s.link p with requests := rest }).link p = { s.link p with requests := rest } :=
      setLink_link ..
    have hs : (s.setLink p { s.link p with requests := rest }).LinksSound := by
      constructor
      · intro q
        by_cases hq : q = p
        · subst hq
          rw [hlink]
          refine ⟨?_, (h.bounded q).2⟩
          have := (h.bounded q).1
          rw [e] at this
          simp only [List.length_cons] at this
          exact Nat.le_of_succ_le this
        · rw [setLink_link_ne _ _ hq]; exact h.bounded q
      · intro q x hx
        by_cases hq : q = p
        · subst hq; rw [hlink] at hx ⊢; exact h.legal q x hx
        · rw [setLink_link_ne _ _ hq] at hx ⊢; exact h.legal q x hx
    have k : (s.setLink p { s.link p with requests := rest }).Took p
        (take p r (s.setLink p { s.link p with requests := rest })) :=
      take_took r (by rw [hlink]; exact hf) (HeldLegal_abortFree hs.legal)
    generalize take p r (s.setLink p { s.link p with requests := rest }) = u at k ⊢
    refine ⟨hs.took k ?_, queued_lt_of (p := p) ?_ ?_⟩
    · rw [hlink]
      simp only [Link.owed, hf, Option.isSome_none]
      exact Nat.lt_succ_of_le hl
    · have := k.requests
      rw [hlink] at this
      rcases this with q | q <;> rw [q, e] <;> simp
    · intro q hq
      have := (k.others q hq).requests
      rw [setLink_link_ne _ _ hq] at this
      rcases this with q | q
      · rw [q]
      · rw [q]; simp

/-! ## Settling -/

theorem mem_of_pickOne {α : Type} {n : Nat} {xs : List α} {x : α} (h : pickOne n xs = some x) : x ∈ xs := by
  unfold pickOne at h
  split at h
  · cases h
  · cases h; simp
  · exact List.mem_of_getElem? h

theorem pickOne_eq_none {α : Type} {n : Nat} {xs : List α} (h : pickOne n xs = none) : xs = [] := by
  unfold pickOne at h
  split at h
  · rfl
  · cases h
  · rw [List.getElem?_eq_none_iff] at h
    next rest =>
      have := Nat.mod_lt (Config.freeChoice n) (Nat.succ_pos (rest.length + 1))
      simp only [List.length_cons, Nat.succ_eq_add_one] at h this
      have e : rest.length + 1 + 1 = rest.length + 2 := rfl
      rw [e] at this
      omega

theorem chooseAmong_link {α : Type} (s : State) (xs : List α) (p : Port) : (s.chooseAmong xs).link p = s.link p := by
  unfold State.chooseAmong
  split <;> rfl

theorem chooseAmong_sound {α : Type} {s : State} (h : s.LinksSound) (xs : List α) : (s.chooseAmong xs).LinksSound := by
  refine h.follows (.of_links ?_)
  unfold State.chooseAmong
  split <;> rfl

theorem chooseAmong_queued {α : Type} (s : State) (xs : List α) : (s.chooseAmong xs).queued = s.queued := by
  rw [queued_eq, queued_eq]
  simp only [chooseAmong_link]

theorem settleFor_sound (n : Nat) {s : State} (h : s.LinksSound) (hn : s.queued ≤ n) :
    (settleFor n s).LinksSound ∧ (settleFor n s).Settled := by
  induction n generalizing s with
  | zero =>
    refine ⟨h, ?_⟩
    have hq : ∀ q, (s.link q).requests = [] := by
      rw [queued_eq] at hn
      intro q
      apply List.length_eq_zero_iff.1
      cases q <;> omega
    exact ready_eq_nil_of_empty hq
  | succ n ih =>
    unfold settleFor
    split
    · next e => exact ⟨h, pickOne_eq_none e⟩
    · next p e =>
      have hp := mem_of_pickOne e
      simp only [State.ready, List.mem_filter] at hp
      have k := takeOldest_took (chooseAmong_sound h s.ready) (p := p) (by rw [chooseAmong_link]; exact hp.2)
      rw [chooseAmong_queued] at k
      exact ih k.1 (by omega)

/-- After `settle` the link units are sound and no port can take a request (R181). -/
theorem settle_sound {s : State} (h : s.LinksSound) : s.settle.LinksSound ∧ s.settle.Settled :=
  settleFor_sound s.queued h (Nat.le_refl _)

/-- More fuel than requests wait changes nothing: every taking shortens a queue. -/
theorem settleFor_eq_settle (n : Nat) {s : State} (h : s.LinksSound) (hn : s.queued ≤ n) : settleFor n s = s.settle := by
  have e : ∀ m n : Nat, ∀ s : State, s.LinksSound → s.queued ≤ m → s.queued ≤ n → settleFor m s = settleFor n s := by
    intro m
    induction m with
    | zero =>
      intro n s h hm _
      have hq : ∀ q, (s.link q).requests = [] := by
        rw [queued_eq] at hm
        intro q
        apply List.length_eq_zero_iff.1
        cases q <;> omega
      cases n with
      | zero => rfl
      | succ n => simp [settleFor, ready_eq_nil_of_empty hq, pickOne]
    | succ m ih =>
      intro n s h hm hn
      cases n with
      | zero =>
        have hq : ∀ q, (s.link q).requests = [] := by
          rw [queued_eq] at hn
          intro q
          apply List.length_eq_zero_iff.1
          cases q <;> omega
        simp [settleFor, ready_eq_nil_of_empty hq, pickOne]
      | succ n =>
        unfold settleFor
        split
        · rfl
        · next p e =>
          have hp := mem_of_pickOne e
          simp only [State.ready, List.mem_filter] at hp
          have k := takeOldest_took (chooseAmong_sound h s.ready) (p := p) (by rw [chooseAmong_link]; exact hp.2)
          rw [chooseAmong_queued] at k
          exact ih n _ k.1 (by omega) (by omega)
  exact e n s.queued s h hn (Nat.le_refl _)

/-- A settling takes one request and goes on (R181). -/
theorem settle_of_pick {s : State} {p : Port} (h : s.LinksSound) (e : pickOne s.choices s.ready = some p) :
    s.settle = ((s.chooseAmong s.ready).takeOldest p).settle := by
  have hp := mem_of_pickOne e
  simp only [State.ready, List.mem_filter] at hp
  have k := takeOldest_took (chooseAmong_sound h s.ready) (p := p) (by rw [chooseAmong_link]; exact hp.2)
  rw [chooseAmong_queued] at k
  have hq : s.queued = (s.queued - 1) + 1 := by omega
  rw [State.settle, hq, settleFor, e]
  exact settleFor_eq_settle _ k.1 (by omega)

/-- With one port that can take a request, it takes its oldest, and the settling goes on (R181). -/
theorem settle_of_one {s : State} {p : Port} {r : Request} {rest : List Request} (h : s.LinksSound)
    (requests : (s.link p).requests = r :: rest) (can : (s.link p).canTake = true)
    (others : ∀ q, q ≠ p → (s.link q).canTake = false) :
    s.settle = (take p r (s.setLink p { s.link p with requests := rest })).settle := by
  have hr := ready_singleton can others
  rw [settle_of_pick (p := p) h (by rw [hr]; rfl), hr]
  simp [State.chooseAmong, State.takeOldest, requests]

end Sys2Proof.Machine
end

