-- ==== Sys2Proof/Laws/Clock.lean ====
section
/-! SUPPORT. What no command but the resets and LINE_TIME_STEP writes: the command queue, the two causes of reset and
the line time. -/

namespace Sys2Proof.Machine

open Sys2Proof

/-- The command queue, the causes of reset and the line time are the same in both states. -/
structure State.SameClock (s t : State) : Prop where
  pending : t.pending = s.pending
  supplyLow : t.supplyLow = s.supplyLow
  resetLow : t.resetLow = s.resetLow
  lineTime : t.lineTime = s.lineTime

theorem State.SameClock.refl (s : State) : s.SameClock s := ⟨rfl, rfl, rfl, rfl⟩

theorem State.SameClock.trans {s t u : State} (h : s.SameClock t) (k : t.SameClock u) : s.SameClock u :=
  ⟨k.pending.trans h.pending, k.supplyLow.trans h.supplyLow, k.resetLow.trans h.resetLow, k.lineTime.trans h.lineTime⟩

theorem takeReserve_clock (h : Head) (r : Request) (s : State) : s.SameClock (takeReserve h r s) := by
  unfold takeReserve
  repeat' split
  case h_1 ans t e =>
    unfold State.tryReserve at e
    split at e
    · cases e
    · split at e
      · cases e
      · simp only [Option.some.injEq] at e
        have e := congrArg Prod.snd e
        simp only at e
        subst e
        constructor <;> simp
  all_goals constructor <;> simp

theorem takeRelease_clock (h : Head) (r : Request) (s : State) : s.SameClock (takeRelease h r s) := by
  unfold takeRelease
  try dsimp only
  repeat' split
  all_goals constructor <;> simp

theorem takeDiscard_clock (h : Head) (r : Request) (s : State) : s.SameClock (takeDiscard h r s) := by
  unfold takeDiscard
  try dsimp only
  repeat' split
  all_goals constructor <;> simp

theorem takePick_clock (h : Head) (r : Request) (s : State) : s.SameClock (takePick h r s) := by
  unfold takePick
  try dsimp only
  repeat' split
  all_goals constructor <;> simp

theorem takePicked_clock (h : Head) (r : Request) (s : State) : s.SameClock (takePicked h r s) := by
  unfold takePicked
  try dsimp only
  repeat' split
  all_goals constructor <;> simp

theorem takePickFail_clock (h : Head) (r : Request) (s : State) : s.SameClock (takePickFail h r s) := by
  unfold takePickFail
  try dsimp only
  repeat' split
  all_goals constructor <;> simp

theorem takePlace_clock (h : Head) (r : Request) (s : State) : s.SameClock (takePlace h r s) := by
  unfold takePlace
  try dsimp only
  repeat' split
  all_goals constructor <;> simp

theorem takeBonded_clock (h : Head) (r : Request) (s : State) : s.SameClock (takeBonded h r s) := by
  unfold takeBonded
  try dsimp only
  repeat' split
  all_goals constructor <;> simp

theorem takeBondFail_clock (h : Head) (r : Request) (s : State) : s.SameClock (takeBondFail h r s) := by
  unfold takeBondFail
  try dsimp only
  repeat' split
  all_goals constructor <;> simp

theorem takeClaims_clock (h : Head) (r : Request) (s : State) : s.SameClock (takeClaims h r s) := by
  unfold takeClaims
  try dsimp only
  repeat' split
  all_goals constructor <;> simp

theorem takeAwaitOrder_clock (r : Request) (s : State) : s.SameClock (takeAwaitOrder r s) := by
  unfold takeAwaitOrder
  try dsimp only
  repeat' split
  all_goals constructor <;> simp

theorem takePresented_clock (r : Request) (s : State) : s.SameClock (takePresented r s) := by
  unfold takePresented
  try dsimp only
  repeat' split
  all_goals constructor <;> simp

theorem takePresentFail_clock (r : Request) (s : State) : s.SameClock (takePresentFail r s) := by
  unfold takePresentFail
  try dsimp only
  repeat' split
  all_goals constructor <;> simp

theorem takeNextSite_clock (r : Request) (s : State) : s.SameClock (takeNextSite r s) := by
  unfold takeNextSite
  try dsimp only
  repeat' split
  all_goals constructor <;> simp

theorem takeDispensed_clock (r : Request) (s : State) : s.SameClock (takeDispensed r s) := by
  unfold takeDispensed
  try dsimp only
  repeat' split
  all_goals constructor <;> simp

theorem takeDispenseFail_clock (r : Request) (s : State) : s.SameClock (takeDispenseFail r s) := by
  unfold takeDispenseFail
  try dsimp only
  repeat' split
  all_goals constructor <;> simp

theorem takeMapOpen_clock (r : Request) (s : State) : s.SameClock (takeMapOpen r s) := by
  unfold takeMapOpen
  try dsimp only
  repeat' split
  all_goals constructor <;> simp

theorem takeMapDie_clock (r : Request) (s : State) : s.SameClock (takeMapDie r s) := by
  unfold takeMapDie
  try dsimp only
  repeat' split
  all_goals constructor <;> simp

theorem takeMapClose_clock (r : Request) (s : State) : s.SameClock (takeMapClose r s) := by
  unfold takeMapClose
  try dsimp only
  repeat' split
  all_goals constructor <;> simp

theorem takeMapAbandon_clock (r : Request) (s : State) : s.SameClock (takeMapAbandon r s) := by
  unfold takeMapAbandon
  try dsimp only
  repeat' split
  all_goals constructor <;> simp

theorem takeMapAlign_clock (r : Request) (s : State) : s.SameClock (takeMapAlign r s) := by
  unfold takeMapAlign
  try dsimp only
  repeat' split
  all_goals constructor <;> simp

theorem takeWaferClose_clock (r : Request) (s : State) : s.SameClock (takeWaferClose r s) := by
  unfold takeWaferClose
  try dsimp only
  repeat' split
  all_goals constructor <;> simp

theorem takeResolve_clock (r : Request) (s : State) : s.SameClock (takeResolve r s) := by
  unfold takeResolve
  try dsimp only
  repeat' split
  all_goals constructor <;> simp

theorem takeReadDie_clock (r : Request) (s : State) : s.SameClock (takeReadDie r s) := by
  unfold takeReadDie
  try dsimp only
  repeat' split
  all_goals constructor <;> simp

theorem takeStripLoad_clock (r : Request) (s : State) : s.SameClock (takeStripLoad r s) := by
  unfold takeStripLoad
  try dsimp only
  repeat' split
  all_goals constructor <;> simp

theorem takeStripBad_clock (r : Request) (s : State) : s.SameClock (takeStripBad r s) := by
  unfold takeStripBad
  try dsimp only
  repeat' split
  all_goals constructor <;> simp

theorem takeTrackClear_clock (r : Request) (s : State) : s.SameClock (takeTrackClear r s) := by
  unfold takeTrackClear
  try dsimp only
  repeat' split
  all_goals constructor <;> simp

theorem takeIndexRequest_clock (r : Request) (s : State) : s.SameClock (takeIndexRequest r s) := by
  unfold takeIndexRequest
  try dsimp only
  repeat' split
  all_goals constructor <;> simp

theorem takeIndexDone_clock (r : Request) (s : State) : s.SameClock (takeIndexDone r s) := by
  unfold takeIndexDone
  try dsimp only
  repeat' split
  all_goals constructor <;> simp

theorem takeIndexCancel_clock (r : Request) (s : State) : s.SameClock (takeIndexCancel r s) := by
  unfold takeIndexCancel
  try dsimp only
  repeat' split
  all_goals constructor <;> simp

theorem takeReadSite_clock (r : Request) (s : State) : s.SameClock (takeReadSite r s) := by
  unfold takeReadSite
  try dsimp only
  repeat' split
  all_goals constructor <;> simp

theorem takeSet_clock (r : Request) (s : State) : s.SameClock (takeSet r s) := by
  unfold takeSet
  try dsimp only
  repeat' split
  all_goals constructor <;> simp

theorem takeGet_clock (r : Request) (s : State) : s.SameClock (takeGet r s) := by
  unfold takeGet
  try dsimp only
  repeat' split
  all_goals constructor <;> simp

theorem takeStart_clock (r : Request) (s : State) : s.SameClock (takeStart r s) := by
  unfold takeStart State.enterMode State.refuseMode
  try dsimp only
  repeat' split
  all_goals constructor <;> simp

theorem takeDrain_clock (r : Request) (s : State) : s.SameClock (takeDrain r s) := by
  unfold takeDrain State.enterMode State.refuseMode
  try dsimp only
  repeat' split
  all_goals constructor <;> simp

theorem takeResume_clock (r : Request) (s : State) : s.SameClock (takeResume r s) := by
  unfold takeResume State.enterMode State.refuseMode
  try dsimp only
  repeat' split
  all_goals constructor <;> simp

theorem takeHalt_clock (r : Request) (s : State) : s.SameClock (takeHalt r s) := by
  unfold takeHalt State.refuseMode
  try dsimp only
  repeat' split
  all_goals constructor <;> simp

theorem takeStop_clock (r : Request) (s : State) : s.SameClock (takeStop r s) := by
  unfold takeStop State.enterMode State.refuseMode
  try dsimp only
  repeat' split
  all_goals constructor <;> simp

theorem takeReadStatus_clock (r : Request) (s : State) : s.SameClock (takeReadStatus r s) := by
  unfold takeReadStatus
  try dsimp only
  repeat' split
  all_goals constructor <;> simp

theorem takeReadClaims_clock (r : Request) (s : State) : s.SameClock (takeReadClaims r s) := by
  unfold takeReadClaims
  try dsimp only
  repeat' split
  all_goals constructor <;> simp

theorem takeReadStation_clock (r : Request) (s : State) : s.SameClock (takeReadStation r s) := by
  unfold takeReadStation
  try dsimp only
  repeat' split
  all_goals constructor <;> simp

theorem takeReadLog_clock (r : Request) (s : State) : s.SameClock (takeReadLog r s) := by
  unfold takeReadLog
  try dsimp only
  repeat' split
  all_goals constructor <;> simp

theorem takeReadNotices_clock (r : Request) (s : State) : s.SameClock (takeReadNotices r s) := by
  unfold takeReadNotices
  try dsimp only
  repeat' split
  all_goals constructor <;> simp

theorem takeLampAck_clock (r : Request) (s : State) : s.SameClock (takeLampAck r s) := by
  unfold takeLampAck
  try dsimp only
  repeat' split
  all_goals constructor <;> simp

theorem takeHeadEnable_clock (r : Request) (s : State) : s.SameClock (takeHeadEnable r s) := by
  unfold takeHeadEnable
  try dsimp only
  repeat' split
  all_goals constructor <;> simp

theorem takeForfeit_clock (r : Request) (s : State) : s.SameClock (takeForfeit r s) := by
  unfold takeForfeit
  try dsimp only
  repeat' split
  all_goals constructor <;> simp

theorem takeAbort_clock (p : Port) (r : Request) (s : State) : s.SameClock (takeAbort p r s) := by
  unfold takeAbort
  try dsimp only
  repeat' split
  all_goals constructor <;> simp

theorem takeClearAbort_clock (p : Port) (r : Request) (s : State) : s.SameClock (takeClearAbort p r s) := by
  unfold takeClearAbort
  try dsimp only
  repeat' split
  all_goals constructor <;> simp

theorem takeCancel_clock (p : Port) (r : Request) (s : State) : s.SameClock (takeCancel p r s) := by
  unfold takeCancel State.cancelHeld
  try dsimp only
  repeat' split
  all_goals constructor <;> simp

theorem takePortStatus_clock (p : Port) (r : Request) (s : State) : s.SameClock (takePortStatus p r s) := by
  unfold takePortStatus
  try dsimp only
  repeat' split
  all_goals constructor <;> simp

theorem onHead_clock {f : Head → Request → State → State} (hf : ∀ h r s, State.SameClock s (f h r s)) (p : Port)
    (r : Request) (s : State) : s.SameClock (onHead p r f s) := by
  unfold onHead
  split
  · constructor <;> simp
  · exact hf ..

theorem takeCommand_clock (p : Port) (c : Command) (r : Request) (s : State) : s.SameClock (takeCommand p c r s) := by
  cases c with
  | cancel => exact takeCancel_clock ..
  | portStatus => exact takePortStatus_clock ..
  | abort => exact takeAbort_clock ..
  | clearAbort => exact takeClearAbort_clock ..
  | reserve => exact onHead_clock takeReserve_clock ..
  | release => exact onHead_clock takeRelease_clock ..
  | pick => exact onHead_clock takePick_clock ..
  | picked => exact onHead_clock takePicked_clock ..
  | pickFail => exact onHead_clock takePickFail_clock ..
  | place => exact onHead_clock takePlace_clock ..
  | bonded => exact onHead_clock takeBonded_clock ..
  | bondFail => exact onHead_clock takeBondFail_clock ..
  | discard => exact onHead_clock takeDiscard_clock ..
  | claims => exact onHead_clock takeClaims_clock ..
  | awaitOrder => exact takeAwaitOrder_clock ..
  | presented => exact takePresented_clock ..
  | presentFail => exact takePresentFail_clock ..
  | nextSite => exact takeNextSite_clock ..
  | dispensed => exact takeDispensed_clock ..
  | dispenseFail => exact takeDispenseFail_clock ..
  | set => exact takeSet_clock ..
  | get => exact takeGet_clock ..
  | start => exact takeStart_clock ..
  | drain => exact takeDrain_clock ..
  | resume => exact takeResume_clock ..
  | halt => exact takeHalt_clock ..
  | stop => exact takeStop_clock ..
  | reset => constructor <;> simp [takeCommand]
  | mapOpen => exact takeMapOpen_clock ..
  | mapDie => exact takeMapDie_clock ..
  | mapClose => exact takeMapClose_clock ..
  | mapAbandon => exact takeMapAbandon_clock ..
  | mapAlign => exact takeMapAlign_clock ..
  | waferClose => exact takeWaferClose_clock ..
  | resolve => exact takeResolve_clock ..
  | readDie => exact takeReadDie_clock ..
  | stripLoad => exact takeStripLoad_clock ..
  | stripBad => exact takeStripBad_clock ..
  | trackClear => exact takeTrackClear_clock ..
  | indexRequest => exact takeIndexRequest_clock ..
  | indexDone => exact takeIndexDone_clock ..
  | indexCancel => exact takeIndexCancel_clock ..
  | readSite => exact takeReadSite_clock ..
  | readStatus => exact takeReadStatus_clock ..
  | readClaims => exact takeReadClaims_clock ..
  | readStation => exact takeReadStation_clock ..
  | readLog => exact takeReadLog_clock ..
  | readNotices => exact takeReadNotices_clock ..
  | headEnable => exact takeHeadEnable_clock ..
  | forfeit => exact takeForfeit_clock ..
  | lampAck => exact takeLampAck_clock ..

theorem clearFresh_clock (s : State) (p : Port) : s.SameClock (s.clearFresh p) := ⟨rfl, rfl, rfl, rfl⟩

theorem setLink_clock (s : State) (p : Port) (l : Link) : s.SameClock (s.setLink p l) := ⟨rfl, rfl, rfl, rfl⟩

theorem reply_clock (s : State) (p : Port) (tag : Byte) (c : ReplyCode) (ws : List Word) :
    s.SameClock (s.reply p tag c ws) := ⟨rfl, rfl, rfl, rfl⟩

theorem take_clock (p : Port) (r : Request) (s : State) : s.SameClock (take p r s) := by
  refine (clearFresh_clock s p).trans ?_
  unfold take
  simp only
  split
  · exact reply_clock ..
  · split
    · exact reply_clock ..
    · exact takeCommand_clock ..

theorem takeNow_clock (p : Port) (r : Request) (s : State) : s.SameClock (takeNow p r s) := by
  refine (clearFresh_clock s p).trans ?_
  unfold takeNow
  simp only
  split
  · exact reply_clock ..
  · exact takeCommand_clock ..

theorem takeOldest_clock (s : State) (p : Port) : s.SameClock (s.takeOldest p) := by
  unfold State.takeOldest
  split
  · exact .refl s
  · exact (setLink_clock ..).trans (take_clock ..)

theorem chooseAmong_clock {α : Type} (s : State) (xs : List α) : s.SameClock (s.chooseAmong xs) := by
  unfold State.chooseAmong
  split <;> exact ⟨rfl, rfl, rfl, rfl⟩

theorem settleFor_clock (n : Nat) (s : State) : s.SameClock (settleFor n s) := by
  induction n generalizing s with
  | zero => exact .refl s
  | succ n ih =>
    unfold settleFor
    split
    · exact .refl s
    · exact ((chooseAmong_clock ..).trans (takeOldest_clock ..)).trans (ih _)

theorem settle_clock (s : State) : s.SameClock s.settle := settleFor_clock ..

theorem softReset_clock (s : State) : s.SameClock s.softReset := ⟨rfl, rfl, rfl, rfl⟩

theorem receive_clock (s : State) (p : Port) (r : Request) : s.SameClock (s.receive p r) := by
  unfold State.receive
  split
  · exact softReset_clock s
  · split
    · split
      · exact (takeNow_clock ..).trans (settle_clock _)
      · exact setLink_clock ..
    · split
      · exact (setLink_clock ..).trans (settle_clock _)
      · exact setLink_clock ..

theorem beginFrame_clock (s : State) (p : Port) : s.SameClock (s.beginFrame p) := by
  unfold State.beginFrame
  split
  · exact setLink_clock ..
  · exact setLink_clock ..

theorem endRequest_clock (s : State) (p : Port) (bytes : List Byte) (extra : Nat) :
    s.SameClock (s.endRequest p bytes extra) := by
  unfold State.endRequest
  simp only
  split
  · exact (setLink_clock ..).trans (setLink_clock ..)
  · split
    · exact (setLink_clock ..).trans (setLink_clock ..)
    · exact (setLink_clock ..).trans (receive_clock ..)

theorem endFetch_clock (s : State) (p : Port) (n : Nat) : s.SameClock (s.endFetch p n) := by
  unfold State.endFetch
  simp only
  split
  · exact (setLink_clock ..).trans (setLink_clock ..)
  · exact (setLink_clock ..).trans (settle_clock _)

theorem endFrame_clock (s : State) (p : Port) (bytes : List Byte) (extra : Nat) :
    s.SameClock (s.endFrame p bytes extra) := by
  unfold State.endFrame
  split
  · exact setLink_clock ..
  · split
    · exact setLink_clock ..
    · split
      · exact endFetch_clock ..
      · exact endRequest_clock ..

theorem endFetchFrame_clock (s : State) (p : Port) (n : Nat) : s.SameClock (s.endFetchFrame p n) := by
  unfold State.endFetchFrame
  split
  · exact setLink_clock ..
  · exact endFetch_clock ..

theorem fixReply_clock (s : State) (p : Port) : s.SameClock (s.fixReply p) := by
  unfold State.fixReply
  split
  · exact .refl s
  · exact setLink_clock ..

/-- A whole request frame (R174). -/
theorem arrive_clock (s : State) (p : Port) (r : Request) : s.SameClock (s.arrive p r) :=
  (beginFrame_clock ..).trans (endFrame_clock ..)

theorem expire_clock (s : State) (t : Timer) : s.SameClock (s.expire t) := by
  cases t <;> simp only [State.expire]
  · unfold State.expirePresentation; constructor <;> simp
  · unfold State.expireGrant; constructor <;> simp
  · unfold State.expirePlaceHold
    repeat' split
    all_goals constructor <;> simp
  · unfold State.expireDispenseHold; constructor <;> simp
  · unfold State.expirePotLife
    repeat' split
    all_goals constructor <;> simp
  · unfold State.expireWait
    repeat' split
    all_goals constructor <;> simp
  · constructor <;> simp

theorem takeExpiry_clock (s : State) (t : Timer) : s.SameClock (s.takeExpiry t) := by
  unfold State.takeExpiry
  split
  · exact (expire_clock ..).trans (settle_clock _)
  · exact .refl s

theorem takeDueFor_clock (n : Nat) (s : State) : s.SameClock (takeDueFor n s) := by
  induction n generalizing s with
  | zero => exact .refl s
  | succ n ih =>
    unfold takeDueFor
    split
    · exact .refl s
    · exact (((chooseAmong_clock ..).trans (expire_clock ..)).trans (settle_clock _)).trans (ih _)

theorem takeDue_clock (s : State) : s.SameClock s.takeDue := takeDueFor_clock ..

theorem completeInit_clock (s : State) : s.SameClock s.completeInit := by
  unfold State.completeInit
  split
  · exact ⟨rfl, rfl, rfl, rfl⟩
  · exact .refl s

theorem endInit_clock (s : State) : s.SameClock s.endInit := by
  unfold State.endInit
  split
  · exact completeInit_clock s
  · exact .refl s

theorem takeHaltEntry_clock (s : State) (p : Port) : s.SameClock (s.takeHaltEntry p) := by
  unfold State.takeHaltEntry
  split
  · exact .refl s
  · refine State.SameClock.trans ?_ (settle_clock _)
    constructor <;> simp

theorem reportClaimUnit_clock (s : State) : s.SameClock s.reportClaimUnit := by
  unfold State.reportClaimUnit
  split
  · exact .refl s
  · refine State.SameClock.trans ?_ (settle_clock _)
    constructor <;> simp

theorem reportDispenser_clock (s : State) : s.SameClock s.reportDispenser := by
  unfold State.reportDispenser
  split
  · exact .refl s
  · refine State.SameClock.trans ?_ (settle_clock _)
    constructor <;> simp

theorem takeReport_clock (s : State) (d : ReportTo) : s.SameClock (s.takeReport d) := by
  cases d
  · exact reportClaimUnit_clock s
  · exact reportDispenser_clock s

theorem pinEvent_clock (s : State) (i : CaptureInput) (e : PinEvent) : s.SameClock (s.pinEvent i e) :=
  ⟨rfl, rfl, rfl, rfl⟩

end Sys2Proof.Machine
end

