-- ==== Sys2Proof/Laws/Selection.lean ====
section
/-! SUPPORT. What a selection does (R16 to R18): one die tried, die passed over by the scan, and the scan that finds one. -/

namespace Sys2Proof.Machine

open Sys2Proof

theorem readyWafer_of_ready {s : State} {w : WaferInfo} (h : s.map.phase = .ready w) : s.readyWafer = some w := by
  simp [State.readyWafer, h]

theorem readyWafer_of_not_ready {s : State} (h : ∀ w, s.map.phase ≠ .ready w) : s.readyWafer = none := by
  unfold State.readyWafer
  split
  · rfl
  · rfl
  · next w e => exact absurd e (h w)

theorem ready_of_readyWafer {s : State} {w : WaferInfo} (h : s.readyWafer = some w) : s.map.phase = .ready w := by
  unfold State.readyWafer at h
  split at h
  · cases h
  · cases h
  · next e => cases h; exact e

@[simp] theorem setMap_setMap (s : State) (m n : DieMap) : (s.setMap m).setMap n = s.setMap n := rfl

theorem setMap_dieEligible (s : State) (m : DieMap) (d : DieRecord) :
    (s.setMap m).dieEligible d = s.dieEligible d := rfl

theorem setMap_candidateAxis (s : State) (m : DieMap) (w : WaferInfo) (d : DieRecord) :
    (s.setMap m).candidateAxis w d = s.candidateAxis w d := rfl

/-- A die that is not eligible, or not there, is passed over. -/
theorem tryDie_skip {s : State} {w : WaferInfo} {i : Nat}
    (h : ∀ d, s.map.table[i]? = some d → s.dieEligible d = false) : s.tryDie w i = (false, s) := by
  unfold State.tryDie
  split
  · rfl
  · next d e => simp [h d e]

/-- An eligible and reachable die is chosen. -/
theorem tryDie_take {s : State} {w : WaferInfo} {i : Nat} {d : DieRecord} (hd : s.map.table[i]? = some d)
    (el : s.dieEligible d = true) (reach : s.candidateAxis w d = 0) : s.tryDie w i = (true, s) := by
  simp [State.tryDie, hd, el, reach]

/-- An eligible die out of travel is rejected (R18). -/
theorem tryDie_reject {s : State} {w : WaferInfo} {i : Nat} {d : DieRecord} (hd : s.map.table[i]? = some d)
    (el : s.dieEligible d = true) (out : s.candidateAxis w d ≠ 0) :
    s.tryDie w i = (false, s.rejectUnreachable w i d) := by
  simp [State.tryDie, hd, el, out]

/-- The scan passes over die that are not eligible (R17). -/
theorem selectScan_skip (w : WaferInfo) (k : Nat) (s : State)
    (h : ∀ j e, s.map.cursor ≤ j → j < s.map.cursor + k → s.map.table[j]? = some e → s.dieEligible e = false) (m : Nat) :
    selectScan w (k + m) s = selectScan w m (s.setMap { s.map with cursor := s.map.cursor + k }) := by
  induction k generalizing s with
  | zero => simp [State.setMap]
  | succ k ih =>
    have e : k + 1 + m = (k + m) + 1 := by omega
    rw [e, selectScan, tryDie_skip]
    · simp only
      rw [ih]
      · simp only [setMap_map, setMap_setMap]
        have e : s.map.cursor + 1 + k = s.map.cursor + (k + 1) := by omega
        rw [e]
      · intro j e h1 h2 h3
        rw [setMap_map] at h1 h2 h3
        exact h j e (by simp only at h1; omega) (by simp only at h2; omega) h3
    · intro d hd
      exact h s.map.cursor d (Nat.le_refl _) (by omega) hd

/-- The scan finds the first eligible die when it is reachable, and leaves the cursor behind it (R17). -/
theorem selectScan_found {w : WaferInfo} {s : State} {i n : Nat} {d : DieRecord} (hc : s.map.cursor ≤ i)
    (hn : i < s.map.cursor + n) (hd : s.map.table[i]? = some d) (el : s.dieEligible d = true)
    (reach : s.candidateAxis w d = 0)
    (skip : ∀ j e, s.map.cursor ≤ j → j < i → s.map.table[j]? = some e → s.dieEligible e = false) :
    selectScan w n s = (some i, s.setMap { s.map with cursor := i + 1 }) := by
  have e1 : n = (i - s.map.cursor) + ((n - (i - s.map.cursor) - 1) + 1) := by omega
  have e2 : s.map.cursor + (i - s.map.cursor) = i := by omega
  rw [e1, selectScan_skip w _ s (fun j e h1 h2 h3 => skip j e h1 (by omega) h3), e2, selectScan]
  simp only [setMap_map, setMap_setMap]
  rw [tryDie_take (s := s.setMap { s.map with cursor := i + 1 }) (d := d) hd el reach]

/-! ## A whole selection, one die at a time -/

theorem notify_keeps_map (s : State) (k : NoticeKind) (ws : List Word) : (s.notify k ws).map = s.map := by
  unfold State.notify
  split <;> rfl

/-- A die rejected UNREACHABLE leaves the returned queue, the cursor and the rescan flag as they are (R18). -/
theorem rejectUnreachable_keeps (s : State) (w : WaferInfo) (i : Nat) (d : DieRecord) :
    (s.rejectUnreachable w i d).map.returned = s.map.returned
      ∧ (s.rejectUnreachable w i d).map.cursor = s.map.cursor
      ∧ (s.rejectUnreachable w i d).map.rescan = s.map.rescan := by
  simp only [State.rejectUnreachable, notify_keeps_map]
  unfold State.moveDie
  split
  · exact ⟨rfl, rfl, rfl⟩
  · split
    · split
      · exact ⟨rfl, rfl, rfl⟩
      · simp only [reduceCtorEq, if_false]
        split
        · unfold State.leaveAvailable
          split <;> simp
        · exact ⟨rfl, rfl, rfl⟩
    · exact ⟨rfl, rfl, rfl⟩

/-- Trying a die moves neither the returned queue nor the cursor nor the rescan flag. -/
theorem tryDie_keeps (s : State) (w : WaferInfo) (i : Nat) :
    (s.tryDie w i).2.map.returned = s.map.returned ∧ (s.tryDie w i).2.map.cursor = s.map.cursor
      ∧ (s.tryDie w i).2.map.rescan = s.map.rescan := by
  unfold State.tryDie
  split
  · exact ⟨rfl, rfl, rfl⟩
  · split
    · split
      · exact ⟨rfl, rfl, rfl⟩
      · exact rejectUnreachable_keeps ..
    · exact ⟨rfl, rfl, rfl⟩

/-- The queue phase takes the oldest entry out and tries it (R16). -/
theorem selectDie_queued {w : WaferInfo} {s : State} {i : Nat} {rest : List Nat} (h : s.map.returned = i :: rest) :
    selectDie w s = match (s.setMap { s.map with returned := rest }).tryDie w i with
      | (true, t) => (some i, t)
      | (false, t) => selectDie w t := by
  have k := (tryDie_keeps (s.setMap { s.map with returned := rest }) w i).1
  rw [selectDie, h, selectQueued]
  generalize (s.setMap { s.map with returned := rest }).tryDie w i = x at k ⊢
  obtain ⟨b, t⟩ := x
  cases b
  · simp only [selectDie]
    simp only [setMap_map] at k
    rw [k]
  · rfl

theorem selectScan_rescan (w : WaferInfo) (k : Nat) (s : State) :
    (selectScan w k s).2.map.rescan = s.map.rescan := by
  induction k generalizing s with
  | zero => rfl
  | succ k ih =>
    have h := (tryDie_keeps (s.setMap { s.map with cursor := s.map.cursor + 1 }) w s.map.cursor).2.2
    rw [selectScan]
    generalize (s.setMap { s.map with cursor := s.map.cursor + 1 }).tryDie w s.map.cursor = x at h ⊢
    obtain ⟨b, t⟩ := x
    cases b
    · exact (ih t).trans h
    · exact h

theorem selectDie_empty {w : WaferInfo} {s : State} (h : s.map.returned = []) : selectDie w s = selectScans w s := by
  rw [selectDie, h, selectQueued]

/-- The scan moves its cursor past the die it names and tries that die (R17). -/
theorem selectDie_scan {w : WaferInfo} {s : State} (h : s.map.returned = []) (inside : s.map.cursor < w.dieCount) :
    selectDie w s = match (s.setMap { s.map with cursor := s.map.cursor + 1 }).tryDie w s.map.cursor with
      | (true, t) => (some s.map.cursor, t)
      | (false, t) => selectDie w t := by
  have k := tryDie_keeps (s.setMap { s.map with cursor := s.map.cursor + 1 }) w s.map.cursor
  have e : w.dieCount - s.map.cursor = (w.dieCount - (s.map.cursor + 1)) + 1 := by omega
  rw [selectDie_empty h, selectScans, e, selectScan]
  generalize (s.setMap { s.map with cursor := s.map.cursor + 1 }).tryDie w s.map.cursor = x at k ⊢
  obtain ⟨b, t⟩ := x
  simp only [setMap_map] at k
  cases b
  · simp only
    rw [selectDie_empty (k.1.trans h), selectScans, k.2.1]
  · rfl

/-- A set rescan flag grants a second scan from index 0, and is clear in it (R17). -/
theorem selectDie_rescan {w : WaferInfo} {s : State} (h : s.map.returned = []) (past : w.dieCount ≤ s.map.cursor)
    (flag : s.map.rescan = true) : selectDie w s = selectDie w (s.setMap { s.map with rescan := false, cursor := 0 }) := by
  have e : w.dieCount - s.map.cursor = 0 := by omega
  have h' : (s.setMap { s.map with rescan := false, cursor := 0 }).map.returned = [] := h
  rw [selectDie_empty h, selectDie_empty h', selectScans, selectScans, e, selectScan]
  simp only [flag, if_true, setMap_map, Nat.sub_zero]
  have k := selectScan_rescan w w.dieCount (s.setMap { s.map with rescan := false, cursor := 0 })
  generalize selectScan w w.dieCount (s.setMap { s.map with rescan := false, cursor := 0 }) = x at k ⊢
  obtain ⟨i, t⟩ := x
  simp only [setMap_map] at k
  cases i <;> simp [k]

/-- With the flag clear the selection ends with nothing found (R17). -/
theorem selectDie_end {w : WaferInfo} {s : State} (h : s.map.returned = []) (past : w.dieCount ≤ s.map.cursor)
    (flag : s.map.rescan = false) : selectDie w s = (none, s) := by
  have e : w.dieCount - s.map.cursor = 0 := by omega
  rw [selectDie_empty h, selectScans, e, selectScan]
  simp [flag]

end Sys2Proof.Machine
end

