-- ==== Sys2Proof/Tests/Slice0.lean ====
section
/-! SUPPORT. The model's own tests: ill-formed commands that the check refuses, figures of the spec's worked examples, and
for each obligation with hypotheses a witness: states and operands that meet them, at the boundaries of their ranges, with
what the command then answers. -/

namespace Sys2Proof.Tests

open Sys2Proof Sys2Proof.Machine

/-! ## Helpers -/

/-- The state after a command. -/
def ran (c : Instr) (s : State) : State :=
  match exec c s with
  | .next t => t
  | .fault _ => s
  | .refused _ => s

/-- The newest reply that a command leaves on a port: its code and its words. -/
def answer (c : Instr) (s : State) (p : Port) : Option (ReplyCode × List Word) :=
  ((ran c s).link p).replies.getLast?.map fun r => (r.code, r.words)

/-- The kind and the data words of the newest notice after a command. -/
def noticed (c : Instr) (s : State) : Option (NoticeKind × List Word) :=
  (ran c s).report.notices.getLast?.map fun n => (n.kind, n.data)

/-- `State.Open` as a test. -/
def openAt (s : State) (p : Port) : Bool :=
  !s.inReset && s.mode != .init && Port.all.all (fun q => (s.link q).requests.isEmpty) && (s.link p).held.isNone
    && decide ((s.link p).replies.length ≤ 7)

/-- `State.Idle` as a test. -/
def idleAt (s : State) (p : Port) : Bool := openAt s p && (s.link p).causes.isEmpty

theorem open_of_openAt {s : State} {p : Port} (h : openAt s p = true) : s.Open p := by
  simp only [openAt, Bool.and_eq_true, Bool.not_eq_true', bne_iff_ne, ne_eq, List.all_eq_true, List.isEmpty_iff,
    Option.isNone_iff_eq_none, decide_eq_true_eq] at h
  obtain ⟨⟨⟨⟨h1, h2⟩, h3⟩, h4⟩, h5⟩ := h
  exact ⟨h1, h2, fun q => h3 q (by cases q <;> decide), h4, h5⟩

/-- The premise `State.Idle` of the statements holds where the test says so. -/
theorem idle_of_idleAt {s : State} {p : Port} (h : idleAt s p = true) : s.Idle p := by
  simp only [idleAt, Bool.and_eq_true, List.isEmpty_iff] at h
  exact ⟨open_of_openAt h.1, h.2⟩

/-- The part in a mode, at a line time of 1000. -/
def inMode (m : LineMode) : State := { State.reset with mode := m, lineTime := 1000 }

/-- The part in RUN. -/
def running : State := inMode .run

/-- The part in SETUP. -/
def inSetup : State := inMode .setup

/-- A wafer of three die in a row, 100 counts apart. -/
def wafer : WaferInfo := ⟨0x0517, 3, 3, 1, ⟨0, 0, 1000, 2000, 25600, 0, 0, 25600⟩⟩

/-- A READY map of that wafer with its die in the states given, all of bin 1. -/
def mapOf (states : List DieState) : DieMap := { DieMap.reset with
  phase := .ready wafer
  nextIndex := states.length
  table := states.zipIdx.map fun x => ⟨x.2, 0, 1, x.1, 0, none, none⟩
  counts := states.foldl (fun c d => c.set d (c.get d + 1)) DieCounts.zero
  eligible := states.count .available }

/-- The part with a READY map, in a mode. -/
def withMap (s : State) (states : List DieState) : State := { s with map := mapOf states }

/-- A claim entry of a die of the wafer. -/
def claim (die : Nat) (st : ClaimState) : Claim := ⟨die, 0x0517, die, 0, 1, st, 0, 900⟩

/-- A stamp taken at 900, with the deadline of the default OPEN-TIME. -/
def stamp : Stamp := ⟨900, .capture, 30900⟩

/-- A column of strip 7 at a position, its row 0 in the state given and its other rows CLEAN. -/
def withSite (s : State) (p : Nat) (x : Site) : State :=
  s.setColumn p (some ⟨7, 3, [x, .clean, .clean, .clean]⟩)

/-- A port that holds a request. -/
def holding (s : State) (p : Port) (c : Command) (words : List Word) (expiry : Option Time) : State :=
  s.setLink p { s.link p with held := some ⟨⟨c.code, 5, words⟩, 990, expiry⟩ }

/-- A port with replies waiting. -/
def owing (s : State) (p : Port) (n : Nat) : State :=
  s.setLink p { s.link p with replies := List.replicate n ⟨1, .done, []⟩ }

/-- An aborted port. -/
def abortedAt (s : State) (p : Port) (sticky : Bool) : State :=
  s.setLink p { s.link p with causes := [⟨.masterAbort, sticky⟩], firstCause := some 950 }

/-! ## Ill-formed commands -/

theorem test_site_out_of_the_strip : (Instr.potLifeExpiry 1 64 0).wellFormed = false
    ∧ (Instr.potLifeExpiry 1 0 8).wellFormed = false ∧ (Instr.potLifeExpiry 1 63 7).wellFormed = true := by decide

theorem test_eight_bits_are_a_byte : (Instr.requestFrame .cell (.ends [1, 2, 0] 8)).wellFormed = false
    ∧ (Instr.requestFrame .cell (.ends [1, 2, 0] 7)).wellFormed = true := by decide

theorem test_first_byte_zero_is_a_fetch : (Instr.requestFrame .cell (.ends [0, 2, 0] 0)).wellFormed = false := by decide

theorem test_words_beyond_24 : (Instr.get 1 (List.replicate 25 0)).wellFormed = false
    ∧ (Instr.get 1 (List.replicate 24 0)).wellFormed = true := by decide

theorem test_unknown_is_no_code_of_its_port : (Instr.unknownCommand .cell 0x80 1 []).wellFormed = false
    ∧ (Instr.unknownCommand .cell 0x00 1 []).wellFormed = false
    ∧ (Instr.unknownCommand .table 0x80 1 []).wellFormed = true := by decide

theorem test_set_of_a_row_of_its_own : (Instr.set 1 [28, 0, 2]).wellFormed = false
    ∧ (Instr.set 1 [5, 0, 2]).wellFormed = true := by decide

theorem test_no_row_has_bits : decodeTableWord 16 0x8001 = none
    ∧ State.reset.withFetchWord 16 0x8001 = State.reset := ⟨rfl, rfl⟩

/-! ## Figures of the spec -/

/-- The transform of the worked example of chapter 02. -/
def production : Transform := ⟨100, 100, 120000, -35000, 1280064, -512, 384, 1024000⟩

theorem test_three_targets :
    (targetX production ⟨3, -2⟩ 103 98, targetY production ⟨3, -2⟩ 103 98) = (135001, -43008)
    ∧ (targetX production ⟨3, -2⟩ 370 100, targetY production ⟨3, -2⟩ 370 100) = (1470071, -35542)
    ∧ (targetX production ⟨3, -2⟩ 400 100, targetY production ⟨3, -2⟩ 400 100) = (1620078, -35602)
    ∧ axisWord Settings.default 1620078 (-35602) = 2 := by decide

theorem test_rounding_half_away_from_zero :
    [127, 128, 383, 384, -384, -2049536].map (divRound 256) = [0, 1, 1, 2, -2, -8006]
    ∧ [20, -24, 4, 8, 24, 7, -592, 0].map (divRound 16) = [1, -2, 0, 1, 2, 0, -37, 0] := by decide

theorem test_inverted_travel_limits :
    [500, 0, -500].map (fun x => axisWord { Settings.default with travelXMin := 100, travelXMax := -100 } x 0) = [3, 3, 3]
    ∧ axisWord { Settings.default with travelYMin := 100, travelYMax := 99 } 0 0 = 12
    ∧ axisWord { Settings.default with travelXMin := 100, travelXMax := 100 } 100 0 = 0 := by decide

theorem test_line_time_wraps : earlier 4294967295 504 = true ∧ earlier 503 504 = true ∧ notEarlier 504 504 = true
    ∧ signedDiff 700 4294967100 = 896 ∧ after 4294967000 800 = 504 := by decide

theorem test_frame_bytes : parseFrame [0x81, 0x07, 0x01, 0x00, 0x05] 0 = some ⟨0x81, 7, [5]⟩
    ∧ parseFrame [0x81, 0x07, 0x02, 0x00, 0x05] 0 = none ∧ parseFrame [0x81, 0x07, 0x01, 0x00, 0x05] 1 = none := by decide

theorem test_slots_behind_the_entry_pointer :
    ({ Track.reset with entry := 61 }).slot 4 = 1 ∧ (State.reset.moveEntry 3).track.entry = 61 := by decide

/-! ## Witnesses: the queue of commands, the laws, the resets, line time and capture -/

/-- A state in which every law holds and a command waits. -/
def waitingTick : State := { inSetup with pending := [.lineTimeStep] }

theorem witness_StepRunsTheFrontCommand : State.reset.pending = [] ∧ waitingTick.pending ≠ [] := by decide

theorem witness_EveryCommandCompletes :
    Instr.initComplete ≠ .powerOnReset ∧ Instr.initComplete ≠ .pinReset ∧ Instr.initComplete ≠ .lineTimeStep
      ∧ ∀ k, Instr.initComplete ≠ .resetRelease k := by
  refine ⟨by decide, by decide, by decide, fun k => ?_⟩
  cases k <;> decide

theorem witness_StepKeepsPortQueues : waitingTick.LinksBounded ∧ waitingTick.HeldLegal ∧ waitingTick.Settled
    ∧ ∃ t, step waitingTick = .next t := by
  refine ⟨fun p => ?_, fun p h e => ?_, by unfold State.Settled; decide, _, rfl⟩
  · cases p <;> exact ⟨by decide, by decide⟩
  · cases p <;> cases e

theorem witness_StepKeepsReports : waitingTick.LogRoom ∧ waitingTick.NoticesBounded ∧ waitingTick.InitEmpty := by
  exact ⟨by unfold State.LogRoom; decide, ⟨by decide, by decide⟩, fun h => by cases h⟩

theorem witness_StepKeepsSettings : waitingTick.DriftBounded ∧ Settings.default.InRange := by
  refine ⟨⟨by decide, by decide⟩, fun id h => ?_⟩
  simp only [settingKnown, Bool.and_eq_true, decide_eq_true_eq] at h
  obtain ⟨h1, h2⟩ := h
  interval_cases id <;> exact ⟨by decide, by decide⟩

/-- The premise of the die counts in a READY map with die in four states. -/
theorem witness_StepKeepsDieCounts : (withMap running [.available, .reserved, .available]).MapCounted
    ∧ (withMap running [.available, .reserved, .available]).map.phase ≠ .none := by
  refine ⟨fun _ => ⟨by decide, fun d => ?_, fun _ => by decide⟩, by decide⟩
  cases d <;> decide

theorem witness_ResetCommands :
    (ran (.resetRelease .pin) { State.reset with supplyLow := true, resetLow := true }).resetLow = false
      ∧ (ran (.resetRelease .powerOn) { State.reset with supplyLow := true }).supplyLow = false
      ∧ ({ State.reset with resetLow := true }).supplyLow = false
      ∧ State.reset.mode = .init ∧ State.reset.inReset = false ∧ (ran .initComplete State.reset).mode = .setup
      ∧ (ran .pinReset (withMap running [.placed])).map.phase = .none
      ∧ (ran .initComplete running).mode = .run := by decide

theorem witness_ResetEmptiesTheWork : running.inReset = false ∧ running.mode ≠ .init ∧ openAt running .cell = true
    ∧ (ran (.reset 1 []) (withMap running [.placed])).mode = .setup
    ∧ (ran (.reset 1 []) running).lineTime = 1000 ∧ ((ran (.reset 1 []) running).link .cell).replies = []
    ∧ answer (.reset 1 (List.replicate 24 0)) running .cell = some (.badparam, []) := by decide

theorem witness_LineTimeStep :
    running.due = [] ∧ State.reset.due = [] ∧ State.reset.lineTime.toNat < 2
      ∧ ({ State.reset with lineTime := 2 }).due = []
      ∧ (ran .lineTimeStep { running with lineTime := 4294967295 }).lineTime = 0
      ∧ (ran .lineTimeStep { State.reset with lineTime := 2 }).mode = .setup
      ∧ (ran .lineTimeStep { State.reset with resetLow := true }).lineTime = 0 := by decide

/-- SHOT has risen, and its queue holds `k` entries. -/
def risen (k : Nat) : State :=
  running.setCapture .shot ⟨List.replicate k 900, 0, 65535, .rising⟩

theorem witness_CaptureEdge :
    ((risen 3).line .shot).pin = .rising ∧ ((ran (.captureEdge .shot .staysHigh) (risen 3)).line .shot).queue.length = 4
      ∧ ((ran (.captureEdge .shot .staysHigh) (risen 4)).line .shot).lost = 65535
      ∧ (running.line .tda).pin ≠ .rising
      ∧ ({ risen 0 with resetLow := true }).inReset = true := by decide

theorem witness_AgeLimit :
    ({ risen 1 with lineTime := 60900 }).Settled ∧ ((risen 1).line .shot).queue = 900 :: []
      ∧ ((ran (.captureAgeLimit .shot) { risen 1 with lineTime := 60900 }).line .shot).stray = 1
      ∧ ((ran (.captureAgeLimit .shot) { risen 1 with lineTime := 60899 }).line .shot).stray = 0
      ∧ ((risen 0).line .shot).queue = [] := by
  refine ⟨by unfold State.Settled; decide, by decide⟩

/-! ## Witnesses: frames and the taking of requests -/

theorem witness_RequestFrame :
    (ran (.requestFrame .cell (.ends [0x81, 1, 1, 0, 5] 0)) State.reset).mode = .init
      ∧ ((ran (.requestFrame .cell (.ends [0x81, 1, 1, 0, 5] 0)) State.reset).link .cell).lostFrames = 1
      ∧ ((ran (.requestFrame .cell (.ends [0x81, 1, 2, 0, 5] 0)) running).link .cell).lost = true
      ∧ parseFrame [0x81, 1, 0] 0 = some ⟨0x81, 1, []⟩ ∧ Port.cell.isImmediate 0x81 = false
      ∧ ((ran (.requestFrame .cell (.ends [0x81, 1, 0] 0)) (owing (running.setLink .cell { running.link .cell with
          requests := List.replicate 4 ⟨0x81, 1, []⟩ }) .cell 8)).link .cell).lostFrames = 1
      ∧ ((ran (.requestFrame .cell (.ends [0x81, 1, 0] 0)) (owing running .cell 8)).link .cell).requests.length = 1
      ∧ ((ran (.requestFrame .headA (.ends [0x20, 1, 0] 0))
          (holding running .headA .reserve [] none)).link .headA).requests.length = 1
      ∧ (owing running .cell 8).ready = [] ∧ (holding running .headA .reserve [] none).ready = [] := by decide

theorem witness_ImmediateWithoutRoom :
    Port.cell.isImmediate Command.cancel.code = true
      ∧ ((ran (.cancel .cell 1 []) (owing running .cell 8)).link .cell).lostFrames = 1
      ∧ ((ran (.portStatus .headA 1 []) (owing (holding running .headA .reserve [] none) .headA 7)).link .headA).lostFrames
        = 1
      ∧ ((ran (.reset 1 [0]) (owing running .cell 8)).link .cell).lostFrames = 1
      ∧ ((ran (.reset 1 []) (owing running .cell 8)).link .cell).replies = []
      ∧ (Instr.portStatus .headA 1 []).requestOf = some (.headA, Command.portStatus.request 1 [])
      ∧ (running.link .headA).frame = none := by decide

/-- SEL of the table port has gone low and no byte has been sent. -/
def selected : State := ran (.requestFrame .table .selected) running

theorem witness_Select :
    selected.sdoDriven .table = true ∧ (ran (.fetch .table (.ends 0)) selected).sdoDriven .table = false
      ∧ (ran .pinReset selected).sdoDriven .table = false
      ∧ (ran (.resetRelease .pin) (ran .pinReset selected)).sdoDriven .table = true
      ∧ (ran (.resetRelease .pin) (ran (.requestFrame .table .begins) (ran .pinReset running))).sdoDriven .table = true
      ∧ (ran (.reset 1 []) selected).sdoDriven .table = true := by decide

/-- A fetch in progress on a cell port that owes one reply without words. -/
def fetching (m : LineMode) : State :=
  ran (.fetch .cell .begins) (owing (inMode m) .cell 1)

theorem witness_Fetch :
    ((fetching .run).link .cell).frame = some ⟨0x12, some ⟨1, .done, []⟩, true⟩
      ∧ ((ran (.fetch .cell (.ends 4)) (fetching .run)).link .cell).replies = []
      ∧ ((ran (.fetch .cell (.ends 4)) (fetching .run)).link .cell).sdo = [0x12, 1, 1, 0]
      ∧ ((ran (.fetch .cell (.ends 3)) (fetching .run)).link .cell).replies.length = 1
      ∧ ((ran (.fetch .cell (.ends 4)) (fetching .init)).link .cell).lostFrames = 1
      ∧ ((ran (.fetch .cell (.ends 5)) (ran (.fetch .cell .begins) running)).link .cell).sdo = [2, 0, 0, 0, 0]
      ∧ (running.link .cell).frame = none ∧ ({ running with resetLow := true }).inReset = true := by decide

/-- A request waits on a port. -/
def waits (s : State) (p : Port) (c : Command) (words : List Word) : State :=
  s.setLink p { s.link p with requests := (s.link p).requests ++ [c.request 6 words] }

/-- A GET waits on the cell port behind eight replies. -/
def getWaits : State := waits (owing running .cell 8) .cell .get [1]

/-- `State.LinksBounded` and `State.HeldLegal` hold of a part that holds nothing and is not aborted. -/
theorem linksOk {s : State} (h : ∀ p, (s.link p).requests.length ≤ 4 ∧ (s.link p).replies.length ≤ 8
    ∧ (s.link p).held = none) : s.LinksBounded ∧ s.HeldLegal := by
  refine ⟨fun p => ⟨(h p).1, ?_⟩, fun p x e => ?_⟩
  · simpa [Link.owed, (h p).2.2, Config.replyCapacity, bit] using (h p).2.1
  · rw [(h p).2.2] at e
    cases e

theorem witness_TakingOfRequests :
    (getWaits.LinksBounded ∧ getWaits.HeldLegal) ∧ getWaits.settle = getWaits
      ∧ ((ran (.fetch .cell (.ends 4)) (ran (.fetch .cell .begins) getWaits)).link .cell).requests = []
      ∧ ((ran (.fetch .cell (.ends 4)) (ran (.fetch .cell .begins) getWaits)).link .cell).replies.length = 8
      ∧ ((waits running .headA .reserve []).settle.link .headA).held.isSome
      ∧ (take .cell ⟨0x7F, 1, []⟩ running).statusByte .cell = 0x10 ∧ Port.cell.codes.contains 0x7F = false
      ∧ (Instr.get 1 [1]).requestOf = some (.cell, Command.get.request 1 [1]) ∧ openAt running .cell = true := by
  refine ⟨linksOk fun p => ?_, by decide⟩
  cases p <;> decide

/-- A GET waits on the cell port, which could take it. -/
theorem witness_SettleTakes : ((waits running .cell .get [1]).LinksBounded ∧ (waits running .cell .get [1]).HeldLegal)
    ∧ (waits running .cell .get [1]).settle ≠ waits running .cell .get [1] := by
  refine ⟨linksOk fun p => ?_, fun h => ?_⟩
  · cases p <;> decide
  · have taken := congrArg (fun s => (s.link .cell).requests) h
    revert taken
    decide

theorem witness_WrongWordCount :
    idleAt running .cell = true ∧ Command.mapDie.countOk 4 = false ∧ Command.get.countOk 24 = false
      ∧ Port.cell.codes.contains Command.mapDie.code = true ∧ Port.cell.codes.contains Command.get.code = true
      ∧ answer (.mapDie 1 [0, 0, 0, 0]) running .cell = some (.badparam, [0, 0])
      ∧ answer (.get 1 (List.replicate 24 0)) running .cell = some (.badparam, []) := by decide

theorem witness_CodeWordAboveOne :
    answer (.discard .A 1 [0, 2]) running .headA = some (.badparam, [])
      ∧ answer (.discard .A 1 [0, 2]) inSetup .headA = some (.badparam, [])
      ∧ answer (.pickFail .B 1 [0, 65535]) inSetup .headB = some (.badparam, [])
      ∧ answer (.bondFail .A 1 [7, 3, 0, 2]) inSetup .headA = some (.badparam, [])
      ∧ answer (.presentFail 1 [0, 2]) (inMode .halt) .table = some (.badparam, [])
      ∧ answer (.dispenseFail 1 [7, 3, 0, 2]) inSetup .dispense = some (.badparam, [])
      ∧ answer (.discard .A 1 [0, 1]) inSetup .headA = some (.mode, [])
      ∧ idleAt (inMode .halt) .table = true ∧ idleAt inSetup .dispense = true := by decide

theorem witness_UnavailableMode :
    idleAt (inMode .drain) .headA = true ∧ Command.reserve.availableIn .drain = false
      ∧ Command.reserve.countOk 0 = true ∧ Command.reserve.codeWordOk [] = true
      ∧ Port.headA.codes.contains Command.reserve.code = true
      ∧ answer (.reserve .A 1 []) (inMode .drain) .headA = some (.mode, [])
      ∧ answer (.start 1 []) running .cell = some (.mode, [2])
      ∧ answer (.pickFail .B 1 [0, 1]) inSetup .headB = some (.mode, [])
      ∧ answer (.indexRequest 1 [9]) (inMode .halt) .cell = some (.mode, []) := by decide

theorem witness_UnknownAndAborted :
    openAt running .table = true ∧ Port.table.codes.contains 0x80 = false
      ∧ answer (.unknownCommand .table 0x80 1 (List.replicate 24 0)) running .table = some (.badcmd, [])
      ∧ openAt (abortedAt running .headA true) .headA = true
      ∧ ((abortedAt running .headA true).link .headA).causes ≠ [] ∧ Port.headA.isImmediate 0x20 = false
      ∧ Command.reserve.code ≠ Command.clearAbort.code
      ∧ answer (.reserve .A 1 []) (abortedAt running .headA true) .headA = some (.aborted, []) := by decide

/-- Head A's PICK waits in the waiting queue. -/
def pickWaits : State :=
  (holding (owing running .headA 6) .headA .pick [0] none).setArbiter { Arbiter.reset with waiting := [⟨.A, 0⟩] }

theorem witness_Cancel :
    answer (.cancel .cell 1 []) (owing running .cell 7) .cell = some (.none, [])
      ∧ (pickWaits.link .headA).replies.length = 6 ∧ (pickWaits.link .headA).held.isSome
      ∧ answer (.cancel .headA 1 []) pickWaits .headA = some (.done, [])
      ∧ (ran (.cancel .headA 1 []) pickWaits).arbiter.waiting = []
      ∧ answer (.cancel .headA 1 []) (holding running .headA .pick [0] none) .headA = some (.state, [])
      ∧ answer (.cancel .headB 1 []) (holding running .headB .place [0] none) .headB = some (.done, [])
      ∧ answer (.cancel .table 1 []) (holding running .table .awaitOrder [] none) .table = some (.done, [])
      ∧ answer (.cancel .headA 1 []) (holding running .headA .reserve [] none) .headA = some (.done, []) := by decide

/-- Requests waiting behind a held one are taken once it is answered. -/
theorem witness_CancelLetsTheNextBeTaken :
    ((ran (.cancel .headA 1 []) (waits (holding running .headA .reserve [] none) .headA .claims [])).link .headA).requests
        = []
      ∧ ((ran (.cancel .headA 1 []) (waits (holding running .headA .reserve [] none) .headA .claims [])).link
        .headA).replies.map Reply.code = [.cancelled, .done, .done]
      ∧ ((ran (.heldRequestWaitExpiry .dispense) (waits (holding running .dispense .nextSite [] (some 1000)) .dispense
        .nextSite [0])).link .dispense).replies.map Reply.code = [.timeout, .badparam] := by decide

theorem witness_AbortAndClearAbort :
    idleAt running .dispense = true ∧ answer (.abort .dispense 1 []) running .dispense = some (.done, [0])
      ∧ noticed (.abort .dispense 1 []) running = some (.portAborted, [4, 1])
      ∧ openAt (abortedAt running .headA true) .headA = true
      ∧ answer (.clearAbort .headA 1 []) (abortedAt running .headA true) .headA = some (.done, [2, 2, 0, 0, 950, 1])
      ∧ answer (.clearAbort .headA 1 []) (abortedAt running .headA false) .headA = some (.done, [2, 0, 0, 0, 950, 0])
      ∧ ((ran (.clearAbort .headA 1 []) (abortedAt running .headA false)).link .headA).firstCause = none := by decide

/-- A CLEAR-ABORT waits on head A's aborted port, and a CLAIMS behind it. -/
def clearWaits : State := waits (waits (abortedAt running .headA false) .headA .clearAbort []) .headA .claims []

theorem witness_QueuedClearAbort :
    (clearWaits.LinksBounded ∧ clearWaits.HeldLegal)
      ∧ ((clearWaits.settle.link .headA).causes = [] ∧ (clearWaits.settle.link .headA).requests = []
        ∧ (clearWaits.settle.link .headA).replies.map Reply.code = [.done, .done]) := by
  refine ⟨linksOk fun p => ?_, by decide⟩
  cases p <;> decide

/-- HALT has asked head A's port, which holds a RESERVE, to enter abort. -/
def haltAsked : State :=
  ran (.halt 1 []) (holding running .headA .reserve [] (some 3000))

theorem witness_HaltEntry :
    (haltAsked.link .headA).haltEntries = 1 ∧ (haltAsked.link .headA).causes = []
      ∧ answer (.portAbortEntry .headA) haltAsked .headA = some (.aborted, [])
      ∧ ((ran (.portAbortEntry .headA) haltAsked).link .headA).causes = [⟨.lineHalt, true⟩]
      ∧ (running.link .headA).haltEntries = 0
      ∧ ((ran (.portAbortEntry .headA) (abortedAt haltAsked .headA false)).link .headA).causes
        = [⟨.masterAbort, false⟩, ⟨.lineHalt, true⟩] := by decide

/-- Head A has a die in each claim state, the PRESENTED one on the station. -/
def headFull : State := { withMap running [.reserved, .presented, .carried] with
  claims := ⟨[claim 0 .reserved, claim 1 .presented, claim 2 .carried], []⟩
  arbiter := { Arbiter.reset with station := .presented ⟨1, 0x0517, .A, 0, 0⟩ 990 } }

theorem witness_Dispositions :
    ((headFull.dispose .headA).claimsOf .A = [claim 2 .carried])
      ∧ (headFull.dispose .headA).map.counts.suspect = 1 ∧ (headFull.dispose .headA).arbiter.station = .free
      ∧ (claim 0 .reserved).state = .reserved ∧ (claim 0 .staging).state = .staging
      ∧ ({ headFull with arbiter := { Arbiter.reset with station := .delivered ⟨1, 0x0517, .A, 0, 0⟩ 990 } }).arbiter.station
        = .delivered ⟨1, 0x0517, .A, 0, 0⟩ 990
      ∧ headFull.dispenser.site = none
      ∧ ({ withSite running 10 (.dispensing 980) with
          dispenser := ⟨some ⟨7, 3, 0, 980⟩, some 1400, 1⟩ }).findColumn 7 3 = some 10 := by decide

theorem witness_Outputs :
    (owing running .cell 8).statusByte .cell = 0x82 ∧ (owing running .cell 1).attn .cell = true
      ∧ running.inReset = false ∧ ({ running with supplyLow := true }).inReset = true
      ∧ (abortedAt running .headA false).attn .headA = true ∧ causeWord [⟨.dispenseExpired, false⟩] = 0x80
      ∧ (fetching .run).sdoDriven .cell = true ∧ running.sdoDriven .cell = false := by decide

theorem witness_LampSources :
    (List.range 16).filter running.lampSource = [1, 2] ∧ (List.range 16).filter (inMode .drain).lampSource = [1, 3]
      ∧ (List.range 16).filter (withMap (inMode .halt) [.suspect]).lampSource = [1, 4, 5, 15]
      ∧ (List.range 16).filter (abortedAt (holding inSetup .headA .reserve [] none) .table false).lampSource = [1, 8, 9]
      ∧ (List.range 16).filter (ran (.awaitOrder 1 []) { inSetup with spoilLatch := true }).lampSource = [1, 11] := by
  decide

/-! ## Witnesses: the die map's transitions, the heads and the pick station -/

theorem witness_DieTransition :
    (withMap running [.available]).map.phase = .ready wafer ∧ wafer.wafer = 0x0517
      ∧ (ran (.reserve .A 1 []) (withMap running [.available])).map.eligible = 0
      ∧ noticed (.reserve .A 1 []) (withMap running [.available]) = some (.waferLow, [0x0517, 0, 50])
      ∧ ((withMap running [.reserved]).moveDie 0x0517 0 .available none none).map.returned = [0]
      ∧ ((withMap running [.reserved]).moveDie 0x0517 0 .staging none (some .A)).map.counts.staging = 1
      ∧ ((withMap running [.reserved]).moveDie 0x0518 0 .staging none none).map.counts.reserved = 1
      ∧ ({ withMap running (List.replicate 16 .reserved) with map := { mapOf (List.replicate 17 .reserved) with
          returned := List.range 16 } }.moveDie 0x0517 16 .available none none).map.rescan = true := by decide

/-- A map whose die 1 lies beyond TRAVEL-X-MAX. -/
def farDie : State := { withMap running [.reserved, .available, .available] with
  settings := { Settings.default with travelXMax := 1099 } }

theorem witness_ReserveDie :
    idleAt farDie .headB = true ∧ farDie.openClaims .B < farDie.settings.lookahead ∧ farDie.logSum < 256
      ∧ answer (.reserve .B 1 []) { farDie with settings := Settings.default } .headB
        = some (.die, [1, 0x0517, 1, 0, 1])
      ∧ answer (.reserve .B 1 []) { farDie with map := { farDie.map with returned := [0] } } .headB = some (.none, [])
      ∧ farDie.candidateAxis wafer ⟨1, 0, 1, .available, 0, none, none⟩ = 2
      ∧ (ran (.reserve .B 1 []) farDie).map.counts.rejected = 2
      ∧ answer (.reserve .B 1 []) { withMap running [.available] with map := { mapOf [.available] with returned := [0] } }
        .headB = some (.die, [0, 0x0517, 0, 0, 1]) := by decide

/-- Die 0 waits in the returned queue though it is no longer AVAILABLE; the rescan flag is set and the scan is at the end. -/
theorem witness_SelectionDropsAndRescans :
    answer (.reserve .B 1 []) { withMap running [.placed, .available] with
        map := { mapOf [.placed, .available] with returned := [0] } } .headB = some (.die, [1, 0x0517, 1, 0, 1])
      ∧ answer (.reserve .B 1 []) { withMap running [.available, .placed, .placed] with
        map := { mapOf [.available, .placed, .placed] with cursor := 3, rescan := true } } .headB
        = some (.die, [0, 0x0517, 0, 0, 1])
      ∧ (ran (.reserve .B 1 []) { withMap running [.available, .placed, .placed] with
        map := { mapOf [.available, .placed, .placed] with cursor := 3, rescan := true } }).map.rescan = false
      ∧ farDie.dieEligible ⟨1, 0, 1, .available, 0, none, none⟩ = true ∧ farDie.map.cursor = 0
      ∧ wafer.dieCount = 3 := by decide

theorem witness_ReserveWithoutDie :
    answer (.reserve .A 1 []) { running with claims := ⟨[claim 0 .reserved], []⟩ } .headA = some (.full, [])
      ∧ (∀ w, running.map.phase ≠ .ready w) ∧ ((ran (.reserve .A 1 []) running).link .headA).held.isSome
      ∧ answer (.reserve .A 1 []) { running with settings := { Settings.default with reserveWait := 0 } } .headA
        = some (.timeout, [])
      ∧ answer (.reserve .A 1 []) { withMap running [.placed, .lost, .rejected] with
          map := { mapOf [.placed, .lost, .rejected] with cursor := 3 } } .headA = some (.none, [])
      ∧ noticed (.reserve .A 1 []) (withMap running [.placed, .lost, .rejected]) = some (.waferEmpty, [0x0517, 0]) := by
  refine ⟨by decide, fun w h => ?_, by decide⟩
  cases h

/-- Both heads hold a RESERVE, head B's at 989 and head A's at 990, and one die is left. -/
def bothWait : State :=
  let s := holding (holding (withMap running [.available]) .headA .reserve [] none) .headB .reserve [] none
  s.setLink .headB { s.link .headB with held := some ⟨⟨0x20, 6, []⟩, 989, none⟩ }

theorem witness_HeldReserves :
    bothWait.holds .headA Command.reserve.code = true ∧ bothWait.logSum < 256
      ∧ bothWait.map.phase = .ready wafer ∧ 2 ^ 31 ≤ ((989 : Time) - 990).toNat
      ∧ bothWait.wakeReserves.claims.b.length = 1 ∧ bothWait.wakeReserves.claims.a = []
      ∧ running.holds .headA Command.reserve.code = false ∧ running.holds .headB Command.reserve.code = false
      ∧ (∀ w, (holding running .headA .reserve [] none).map.phase ≠ .ready w) := by
  refine ⟨by decide, by decide, rfl, by decide, by decide, by decide, by decide, by decide, fun w h => ?_⟩
  cases h

/-- Head A carries die 0. -/
def carrying (s : State) : State := { withMap s [.carried] with claims := ⟨[claim 0 .carried], []⟩ }

theorem witness_ReleaseAndDiscard :
    answer (.release .A 1 [0]) { withMap running [.reserved] with claims := ⟨[claim 0 .reserved], []⟩ } .headA
        = some (.done, [])
      ∧ answer (.release .A 1 [0]) (carrying running) .headA = some (.state, [])
      ∧ answer (.discard .A 1 [0, 0]) (carrying (inMode .drain)) .headA = some (.done, [8])
      ∧ answer (.discard .A 1 [0, 1]) (carrying running) .headA = some (.done, [6])
      ∧ answer (.discard .A 1 [1, 1]) (carrying running) .headA = some (.state, [])
      ∧ (carrying running).findClaim .A 0 .carried = some (claim 0 .carried)
      ∧ idleAt (carrying running) .headA = true := by decide

/-- Head A has reserved die 0, in a mode. -/
def reservedFor (m : LineMode) : State := { withMap (inMode m) [.reserved] with claims := ⟨[claim 0 .reserved], []⟩ }

/-- The station is DELIVERED for head A's die 0, whose PICK is held. -/
def delivered : State := { holding (withMap running [.staging]) .headA .pick [0] none with
  claims := ⟨[claim 0 .staging], []⟩
  arbiter := { Arbiter.reset with station := .delivered ⟨0, 0x0517, .A, 1000, 2000⟩ 995, presentTimer := some 1000 } }

theorem witness_PickAndAwaitOrder :
    (ran (.pick .A 1 [0]) (reservedFor .run)).arbiter.station = .ordered ⟨0, 0x0517, .A, 1000, 2000⟩
      ∧ (ran (.pick .A 1 [0]) (reservedFor .drain)).map.counts.staging = 1
      ∧ answer (.pick .A 1 [0]) (carrying running) .headA = some (.state, [])
      ∧ answer (.pick .A 1 [0]) { reservedFor .run with
          settings := { Settings.default with travelYMin := 2001 } } .headA = some (.dieRejected, [0, 1])
      ∧ answer (.awaitOrder 1 []) (ran (.pick .A 1 [0]) (reservedFor .run)) .table
        = some (.order, [0, 0x0517, 0, 1000, 0, 2000])
      ∧ (ran (.awaitOrder 1 []) (ran (.pick .A 1 [0]) (reservedFor .run))).arbiter.presentTimer = some 1150
      ∧ ((ran (.awaitOrder 1 []) inSetup).link .table).held.isSome ∧ idleAt inSetup .table = true
      ∧ (ran (.pick .A 1 [0]) (reservedFor .run)).arbiter.station ≠ .free := by decide

/-- Head A's die 0 is PRESENTED, with some retries used. -/
def presentedDie (retries : Nat) : State := { withMap running [.presented] with
  claims := ⟨[{ claim 0 .presented with retries := retries }], []⟩
  arbiter := { Arbiter.reset with
    station := .presented ⟨0, 0x0517, .A, 1000, 2000⟩ 995
    grantTimer := ⟨some 1000, none⟩ } }

theorem witness_PickedAndPickFail :
    answer (.picked .A 1 [0]) (presentedDie 0) .headA = some (.done, [])
      ∧ (ran (.picked .A 1 [0]) (presentedDie 0)).map.counts.carried = 1
      ∧ (ran (.picked .A 1 [0]) (presentedDie 0)).arbiter.station = .free
      ∧ answer (.pickFail .A 1 [0, 1]) (presentedDie 0) .headA = some (.done, [6, 0])
      ∧ answer (.pickFail .A 1 [0, 0]) (presentedDie 0) .headA = some (.done, [1, 1])
      ∧ answer (.pickFail .A 1 [0, 0]) (presentedDie 1) .headA = some (.done, [6, 2])
      ∧ (presentedDie 3).settings.pickRetries ≤ 3
      ∧ answer (.pickFail .A 1 [0, 0]) (presentedDie 3) .headA = some (.done, [6, 3])
      ∧ answer (.picked .B 1 [0]) (presentedDie 0) .headB = some (.state, []) := by decide

/-! ## Witnesses: the sites, the table port and the dispense port -/

/-- Head A carries die 0 and a WET site stands at position 20. -/
def canPlace : State := withSite (carrying running) 20 (.wet stamp)

theorem witness_Place :
    answer (.place .A 1 [0]) canPlace .headA = some (.site, [7, 3, 0, 20, 0, 29900])
      ∧ (ran (.place .A 1 [0]) canPlace).siteAt 20 0 = some (.assigned stamp .A 1000 false)
      ∧ (ran (.place .A 1 [0]) canPlace).placement.hold.get .A = some 1800
      ∧ ((ran (.place .A 1 [0]) (carrying running)).link .headA).held.bind Held.expiry = some 2000
      ∧ answer (.place .A 1 [0]) { carrying running with settings := { Settings.default with placeWait := 0 } } .headA
        = some (.timeout, [])
      ∧ answer (.place .A 1 [1]) canPlace .headA = some (.state, [])
      ∧ ((ran (.place .A 1 [0]) { canPlace with track := { canPlace.track with phase := .draining 1 } }).link .headA).held.isSome
      ∧ running.servePlacers = running := by decide

/-- Sites at 20 and 31 with one deadline and one at 25 with an earlier one. -/
def threeWet : State :=
  (withSite (withSite (withSite running 20 (.wet stamp)) 31 (.wet stamp)) 25 (.wet ⟨800, .capture, 1250⟩))

theorem witness_ChosenSite :
    threeWet.chosenSite .A = some ⟨25, 0, 1250⟩
      ∧ ({ threeWet with lineTime := 1001 }).chosenSite .A = some ⟨31, 0, 30900⟩
      ∧ running.chosenSite .A = none
      ∧ ({ threeWet with placement := { Placement.reset with
          assigned := ⟨none, some ⟨7, 3, 1, 24, 0, 0x0517, 990⟩⟩ } }).chosenSite .A = some ⟨31, 0, 30900⟩ := by decide

/-- Head A's die 0 has the site at position 20. -/
def assignedSite (late : Bool) : State := { withSite (carrying running) 20 (.assigned stamp .A 990 late) with
  placement := ⟨[], ⟨some ⟨7, 3, 0, 20, 0, 0x0517, 990⟩, none⟩, ⟨some 1000, none⟩⟩
  dispenser := ⟨none, none, 1⟩ }

theorem witness_SpoilAndRelease :
    ((assignedSite false).releaseSite .A).siteAt 20 0 = some (.wet stamp)
      ∧ ((assignedSite true).releaseSite .A).siteAt 20 0 = some (.spoiled .expired (some stamp))
      ∧ ((assignedSite true).releaseSite .A).spoilLatch = true ∧ (assignedSite true).assignedOf .B = none
      ∧ ((assignedSite true).releaseSite .A).dispenser.wet = 0 := by decide

theorem witness_Bonded :
    answer (.bonded .A 1 [7, 3, 0]) (assignedSite false) .headA = some (.done, [0, 0])
      ∧ (ran (.bonded .A 1 [7, 3, 0]) (assignedSite true)).report.log.length = 1
      ∧ noticed (.bonded .A 1 [7, 3, 0]) (assignedSite true) = some (.lateBond, [7, 3, 20, 1])
      ∧ (ran (.bonded .A 1 [7, 3, 0]) (assignedSite false)).map.counts.placed = 1
      ∧ answer (.bonded .A 1 [7, 3, 1]) (assignedSite false) .headA = some (.state, [])
      ∧ answer (.bonded .B 1 [7, 3, 0]) (assignedSite false) .headB = some (.state, [])
      ∧ matchEdge 7000300 7000460 [7000000, 7000050] = ⟨7000460, .arrival, [], 2⟩
      ∧ matchEdge 990 1000 [989, 990, 995] = ⟨990, .capture, [995], 1⟩ := by decide

theorem witness_BondFail :
    answer (.bondFail .A 1 [7, 3, 0, 0]) (assignedSite false) .headA = some (.done, [4, 4])
      ∧ answer (.bondFail .A 1 [7, 3, 0, 0]) (assignedSite true) .headA = some (.done, [7, 4])
      ∧ answer (.bondFail .A 1 [7, 3, 0, 1]) (assignedSite false) .headA = some (.done, [7, 6])
      ∧ (ran (.bondFail .A 1 [7, 3, 0, 1]) (assignedSite false)).claims.a = []
      ∧ answer (.bondFail .A 1 [7, 4, 0, 1]) (assignedSite false) .headA = some (.state, [])
      ∧ idleAt (assignedSite false) .headA = true := by decide

theorem witness_Presentation :
    idleAt delivered .table = true ∧ answer (.presented 1 [0, 200, 0xFF38]) delivered .table = some (.done, [0])
      ∧ answer (.presented 1 [0, 200, 0xFF38]) delivered .headA = some (.go, [0, 200, 0xFF38])
      ∧ (ran (.presented 1 [0, 200, 0xFF38]) delivered).drift = ⟨50, -50⟩
      ∧ (ran (.presented 1 [0, 200, 0xFF38]) delivered).arbiter.grantTimer.get .A = some 1060
      ∧ answer (.presented 1 [0, 201, 0]) delivered .table = some (.done, [1])
      ∧ answer (.presented 1 [0, 201, 0]) delivered .headA = some (.dieRejected, [0, 2])
      ∧ answer (.presented 1 [1, 0, 0]) delivered .table = some (.stale, [])
      ∧ answer (.presentFail 1 [0, 0]) delivered .headA = some (.dieRejected, [0, 3])
      ∧ answer (.presentFail 1 [0, 1]) delivered .headA = some (.fault, [0, 1])
      ∧ answer (.presentFail 1 [0, 1]) inSetup .table = some (.stale, []) := by decide

/-- A column of CLEAN sites stands at position 17. -/
def canDispense : State := withSite running 17 .clean

/-- The site at position 17 is DISPENSING since 990. -/
def dispensingSite : State := { withSite running 17 (.dispensing 990) with
  dispenser := ⟨some ⟨7, 3, 0, 990⟩, some 1000, 1⟩ }

theorem witness_NextSite :
    answer (.nextSite 1 []) canDispense .dispense = some (.site, [7, 3, 0, 17])
      ∧ (ran (.nextSite 1 []) canDispense).dispenser = ⟨some ⟨7, 3, 0, 1000⟩, some 1500, 1⟩
      ∧ answer (.nextSite 1 []) dispensingSite .dispense = some (.state, [])
      ∧ ((ran (.nextSite 1 []) { canDispense with dispenser := ⟨none, none, 16⟩ }).link .dispense).held.isSome
      ∧ answer (.nextSite 1 []) { running with settings := { Settings.default with siteWait := 0 } } .dispense
        = some (.timeout, [])
      ∧ (traversal { Settings.default with dispenseOrder := 2 }).take 6
        = [(17, 0), (17, 1), (17, 2), (17, 3), (16, 3), (16, 2)]
      ∧ (traversal { Settings.default with dispenseOrder := 3 })[8]? = some (10, 1)
      ∧ (holding canDispense .dispense .nextSite [] none).serveNextSite.siteAt 17 0 = some (.dispensing 1000)
      ∧ running.nextPlace = none := by decide

theorem test_window_is_walked_down : windowDown 10 17 = [17, 16, 15, 14, 13, 12, 11, 10] ∧ windowDown 3 3 = [3] := by decide

theorem witness_DispenseReports :
    answer (.dispensed 1 [7, 3, 0]) dispensingSite .dispense = some (.done, [4, 1, 0, 31000])
      ∧ (ran (.dispensed 1 [7, 3, 0]) dispensingSite).siteAt 17 0 = some (.wet ⟨1000, .arrival, 31000⟩)
      ∧ answer (.dispensed 1 [7, 3, 0]) { dispensingSite with
          capture := { dispensingSite.capture with shot := ⟨[980, 990], 0, 0, .low⟩ }
          settings := { Settings.default with openTime := 1 } } .dispense = some (.done, [7, 0, 0, 1000])
      ∧ answer (.dispensed 1 [7, 3, 1]) dispensingSite .dispense = some (.state, [])
      ∧ answer (.dispenseFail 1 [7, 3, 0, 0]) dispensingSite .dispense = some (.done, [8])
      ∧ answer (.dispenseFail 1 [7, 3, 0, 1]) dispensingSite .dispense = some (.done, [7])
      ∧ answer (.dispenseFail 1 [7, 3, 0, 1]) running .dispense = some (.state, [])
      ∧ dispensingSite.findColumn 7 3 = some 17 ∧ idleAt dispensingSite .dispense = true := by decide

/-! ## Witnesses: the timers -/

theorem witness_HoldExpiries :
    delivered.arbiter.presentTimer = some 1000 ∧ (delivered.link .table).causes = []
      ∧ ((ran .presentationTimerExpiry delivered).link .table).causes = [⟨.presentExpired, false⟩]
      ∧ ((ran .presentationTimerExpiry { delivered with lineTime := 999 }).link .table).causes = []
      ∧ ((ran (.grantTimerExpiry .A) (presentedDie 0)).link .headA).causes = [⟨.grantExpired, false⟩]
      ∧ ((ran .dispenseHoldExpiry dispensingSite).link .dispense).causes = [⟨.dispenseExpired, false⟩]
      ∧ (ran .dispenseHoldExpiry dispensingSite).siteAt 17 0 = some (.spoiled .dispenseLost none)
      ∧ ((ran (.placeHoldExpiry .A) (assignedSite false)).link .headA).causes = [⟨.placeExpired, false⟩]
      ∧ (ran (.placeHoldExpiry .A) (assignedSite false)).map.counts.lost = 1
      ∧ (ran (.placeHoldExpiry .A) { assignedSite false with lineTime := 999 }).claims.a.length = 1 := by decide

theorem witness_PotLifeAndWait :
    ({ threeWet with lineTime := 1250 }).findSite 7 3 0 = some (20, .wet stamp)
      ∧ (ran (.potLifeExpiry 7 3 0) { canPlace with lineTime := 30900 }).siteAt 20 0
        = some (.spoiled .expired (some stamp))
      ∧ (ran (.potLifeExpiry 7 3 0) { canPlace with lineTime := 30899 }).siteAt 20 0 = some (.wet stamp)
      ∧ (ran (.potLifeExpiry 7 3 0) { assignedSite false with lineTime := 30900 }).siteAt 20 0
        = some (.assigned stamp .A 990 true)
      ∧ (ran (.potLifeExpiry 7 3 1) canPlace).siteAt 20 1 = some .clean
      ∧ answer (.heldRequestWaitExpiry .dispense) (holding running .dispense .nextSite [] (some 1000)) .dispense
        = some (.timeout, [])
      ∧ answer (.heldRequestWaitExpiry .dispense) (holding running .dispense .nextSite [] (some 1001)) .dispense = none
      ∧ answer (.heldRequestWaitExpiry .headB) (holding running .headB .place [0] (some 1000)) .headB
        = some (.timeout, []) := by decide

/-- The station is DELIVERED and a site is DISPENSING, both up to 1000. -/
def twoDue : State := { delivered with dispenser := dispensingSite.dispenser }

theorem witness_WhatIsDueIsTakenFirst :
    (delivered.inReset = false ∧ delivered.due = [.presentation] ∧ twoDue.due.length = 2
      ∧ (ran .lineTimeStep delivered).lineTime = 1001
      ∧ ((ran .lineTimeStep delivered).link .table).causes = [⟨.presentExpired, false⟩]
      ∧ ((ran .lineTimeStep { delivered with lineTime := 999 }).link .table).causes = [])
      ∧ (presentedDie 0).due = [.grant .A] ∧ (assignedSite false).due = [.placeHold .A]
      ∧ (holding running .dispense .nextSite [] (some 1000)).due = [.wait .dispense]
      ∧ ({ risen 1 with lineTime := 60900 }).due = [.age .shot]
      ∧ ({ canPlace with lineTime := 30900 }).due = [.potLife 7 3 0] :=
  ⟨by decide, by decide⟩

/-! ## Witnesses: settings and line modes -/

/-- SET with its value as a signed number. -/
def setTo (id : Word) (v : Int) : Instr := .set 1 (id :: words32 (BitVec.ofInt 32 v))

/-- A strip waits in the queue, so the track is not clear. -/
def stripWaits (s : State) : State := { s with track := { s.track with strips := [⟨301, 4, 0, [3, 3, 3, 3]⟩] } }

theorem witness_Set :
    (idleAt inSetup .cell = true ∧ (stripWaits inSetup).track.strips ≠ []
      ∧ answer (setTo 0 1) inSetup .cell = some (.badparam, []) ∧ answer (setTo 39 1) inSetup .cell = some (.badparam, [])
      ∧ answer (setTo 2 2500000) inSetup .cell = some (.clamped, words32 2000000)
      ∧ answer (setTo 26 45) inSetup .cell = some (.done, [0, 45])
      ∧ answer (setTo 17 2500) (stripWaits inSetup) .cell = some (.state, [])
      ∧ answer (setTo 21 48) running .cell = some (.mode, [])
      ∧ answer (setTo 30 32) running .cell = some (.badparam, []) ∧ answer (setTo 35 (-1)) running .cell = some (.badparam, [])
      ∧ answer (setTo 34 31) running .cell = some (.clamped, [0, 24]))
      ∧ answer (setTo 38 127) running .cell = some (.clamped, [0, 111])
      ∧ answer (.writeBinSet 1 6) (withMap running [.available]) .cell = some (.done, [0, 6])
      ∧ (ran (.writeBinSet 1 6) (withMap running [.available])).map.rescan = true
      ∧ (ran (.writeDriftMax 1 10) { inSetup with drift := ⟨50, -50⟩ }).drift = ⟨10, -10⟩
      ∧ (ran (.writeWaferLow 1 0) { withMap running [.available] with
          map := { mapOf [.available] with waferLow := true } }).map.waferLow = false
      ∧ answer (.writePlaceLead 1 28900) running .cell = some (.clamped, [0, 5000])
      ∧ [storedValue 5 4096, storedValue 30 16, storedValue 34 25, storedValue 38 112] = [4095, 17, 24, 96] :=
  ⟨by decide, by decide⟩

theorem witness_Get :
    Settings.default.InRange ∧ idleAt running .cell = true
      ∧ answer (.get 1 [1]) running .cell = some (.done, words32 (-1500000))
      ∧ answer (.get 1 [38]) running .cell = some (.done, [0, 0])
      ∧ answer (.get 1 [0]) running .cell = some (.badparam, []) ∧ answer (.get 1 [39]) running .cell = some (.badparam, [])
      ∧ answer (.get 1 []) running .cell = some (.badparam, [])
      ∧ ((ran (.get 1 [21]) State.reset).link .cell).lost = true ∧ configOk 30 31 = true
      ∧ (Settings.default.put 30 (storedValue 30 31)).get 30 = 24 :=
  ⟨witness_StepKeepsSettings.2, by decide⟩

/-- SETUP with one setting at a value. -/
def setupWith (id : Nat) (v : Int) : State := { inSetup with settings := Settings.default.put id v }

/-- HALT with a LINE-HALT cause on head A's port. -/
def halted : State := (inMode .halt).setLink .headA { (inMode .halt).link .headA with causes := [⟨.lineHalt, true⟩] }

theorem witness_ModeChanges :
    (idleAt inSetup .cell = true ∧ answer (.start 1 []) inSetup .cell = some (.done, [2])
      ∧ answer (.start 1 []) (setupWith 23 18) .cell = some (.badparam, [23])
      ∧ answer (.start 1 []) (setupWith 24 40) .cell = some (.badparam, [24])
      ∧ answer (.start 1 []) (setupWith 25 32) .cell = some (.badparam, [25])
      ∧ answer (.start 1 []) (setupWith 26 40) .cell = some (.badparam, [26])
      ∧ (ran (.start 1 []) (setupWith 26 39)).mode = .run
      ∧ (ran (.drain 1 []) running).mode = .drain ∧ (ran (.drain 1 []) running).reports = ⟨1, 1⟩
      ∧ (ran (.resume 1 []) (inMode .drain)).mode = .run)
      ∧ ((ran (.resume 1 []) halted).link .headA).causes = [⟨.lineHalt, false⟩]
      ∧ ((ran (.drain 1 []) halted).link .headA).causes = [⟨.lineHalt, false⟩]
      ∧ (ran (.stop 1 []) running).mode = .setup ∧ (ran (.stop 1 []) halted).mode = .setup
      ∧ answer (.stop 1 []) (withSite (carrying running) 20 (.assigned stamp .A 990 false)) .cell = some (.busy, [17])
      ∧ answer (.stop 1 []) delivered .cell = some (.busy, [5])
      ∧ answer (.stop 1 []) dispensingSite .cell = some (.busy, [8])
      ∧ answer (.stop 1 []) { running with claims := ⟨[], [claim 0 .carried]⟩ } .cell = some (.busy, [2])
      ∧ answer (.stop 1 []) { running with track := { Track.reset with phase := .moving 3 } } .cell
        = some (.busy, [32]) :=
  ⟨by decide, by decide⟩

/-- Head B holds a RESERVE and the dispense port a NEXT-SITE, and the line has been halted. -/
def haltedHolding : State :=
  ran (.halt 1 []) (holding (holding running .headB .reserve [] none) .dispense .nextSite [] (some 2000))

theorem witness_HaltAndReports :
    ((haltedHolding.mode, haltedHolding.reports) = (.halt, ⟨1, 1⟩)
      ∧ ([Head.A, .B].all fun h => (haltedHolding.link h.port).haltEntries == 1) = true
      ∧ (haltedHolding.link .cell).haltEntries = 0
      ∧ ((ran (.halt 1 []) (abortedAt (inMode .drain) .table false)).link .table).causes
        = [⟨.masterAbort, false⟩, ⟨.lineHalt, true⟩]
      ∧ (ran (.halt 1 []) (inMode .drain)).reports = ⟨0, 0⟩
      ∧ answer (.leavingRunReport .claimUnit) haltedHolding .headB = some (.mode, []))
      ∧ answer (.leavingRunReport .claimUnit) haltedHolding .headA = none
      ∧ answer (.leavingRunReport .dispenseSequencer) haltedHolding .dispense = some (.mode, [])
      ∧ (ran (.leavingRunReport .dispenseSequencer) haltedHolding).reports = ⟨1, 0⟩
      ∧ ran (.leavingRunReport .claimUnit) running = running
      ∧ addCause [⟨.lineHalt, false⟩] .lineHalt true = [⟨.lineHalt, true⟩] :=
  ⟨by decide, by decide⟩

/-! ## Witnesses: the die map on the cell port -/

/-- The words of the transform of that wafer, with the origin given. -/
def transformWords (c0 : Word) (x0 : Int) : List Word :=
  [c0, 0] ++ words32 (BitVec.ofInt 32 x0) ++ words32 2000 ++ words32 25600 ++ words32 0 ++ words32 0 ++ words32 25600

/-- MAP-OPEN of a wafer of `n` die on three columns and two rows (the loading example). -/
def opensMap (n c0 : Word) (x0 : Int) : Instr := .mapOpen 1 ([0x0517, n, 3, 2] ++ transformWords c0 x0)

/-- The loading example up to its first MAP-DIE. -/
def loaded0 : State := ran (opensMap 6 0 1000) inSetup

/-- The loading example after its first MAP-DIE. -/
def loaded1 : State := ran (.mapDie 1 [0, 0, 0x1000, 1, 0x1000, 2, 0x2000, 1, 0x1000]) loaded0

/-- The loading example after its last MAP-DIE. -/
def loaded2 : State := ran (.mapDie 1 [3, 0, 0x1001, 1, 0x1001, 2, 0x3001, 0, 0x1000]) loaded1

/-- The port's replies have been fetched. -/
def fetched (s : State) : State := s.setLink .cell { s.link .cell with replies := [] }

theorem witness_MapOpenAndAlign :
    (idleAt inSetup .cell = true ∧ answer (opensMap 6 0 1000) inSetup .cell = some (.done, [])
      ∧ answer (opensMap 7 0 1000) inSetup .cell = some (.badparam, [1])
      ∧ answer (opensMap 0 0 1000) inSetup .cell = some (.badparam, [1])
      ∧ answer (opensMap 6 3 1000) inSetup .cell = some (.badparam, [4])
      ∧ answer (opensMap 6 2 8388608) inSetup .cell = some (.badparam, [6])
      ∧ answer (opensMap 6 2 (-8388607)) inSetup .cell = some (.done, [])
      ∧ answer (opensMap 6 0 1000) (withMap inSetup [.placed]) .cell = some (.state, []))
      ∧ answer (opensMap 6 0 1000) { inSetup with claims := ⟨[claim 0 .carried], []⟩ } .cell = some (.state, [])
      ∧ answer (.mapAlign 1 (transformWords 2 0)) (withMap running [.available]) .cell = some (.done, [])
      ∧ (ran (.mapAlign 1 (transformWords 2 0)) { withMap running [.available] with drift := ⟨9, 9⟩ }).drift = ⟨0, 0⟩
      ∧ answer (.mapAlign 1 (transformWords 3 0)) (withMap running [.available]) .cell = some (.badparam, [0])
      ∧ answer (.mapAlign 1 (transformWords 2 0)) running .cell = some (.state, [])
      ∧ answer (.mapAlign 1 (transformWords 2 0)) delivered .cell = some (.state, []) :=
  ⟨by decide, by decide⟩

theorem witness_MapDie :
    (idleAt (fetched loaded1) .cell = true ∧ answer (.mapDie 1 [0, 0, 0x1000, 1, 0x1000, 2, 0x2000, 1, 0x1000]) loaded0 .cell
        = some (.state, [3, 3])
      ∧ answer (.mapDie 1 [4, 0, 0x1001]) loaded1 .cell = some (.badparam, [3, 0])
      ∧ answer (.mapDie 1 [3, 0, 0x1001, 1, 0x1001, 2, 0x3001, 0, 0x1000]) loaded1 .cell = some (.full, [6, 3])
      ∧ answer (.mapDie 1 [3, 3, 0x1001]) loaded1 .cell = some (.badparam, [3, 0])
      ∧ answer (.mapDie 1 [3, 0, 0x1201]) loaded1 .cell = some (.badparam, [3, 0]))
      ∧ answer (.mapDie 1 [3, 0, 0x1001]) loaded1 .cell = some (.done, [4, 1])
      ∧ answer (.mapDie 1 [3, 0]) loaded1 .cell = some (.badparam, [3, 0])
      ∧ answer (.mapDie 1 (List.replicate 24 0)) loaded1 .cell = some (.badparam, [3, 0])
      ∧ answer (.mapDie 1 [3, 0, 0]) (withMap running [.placed, .placed, .placed]) .cell = some (.state, [3, 0])
      ∧ loaded2.map.counts.available = 6 ∧ loaded2.map.table.length = 6 :=
  ⟨by decide, by decide⟩

theorem witness_MapClose :
    (idleAt (fetched loaded2) .cell && loaded2.map.nextIndex == 6) = true
      ∧ answer (.mapClose 1 []) (fetched loaded2) .cell = some (.done, [4])
      ∧ (ran (.mapClose 1 []) (fetched loaded2)).map.eligible = 4
      ∧ answer (.mapClose 1 []) (fetched loaded1) .cell = some (.state, [3, 6])
      ∧ answer (.mapClose 1 []) running .cell = some (.state, [0, 0])
      ∧ answer (.mapClose 1 []) (withMap running [.placed, .placed, .placed]) .cell = some (.state, [3, 3]) := by decide

/-- The die counts of the loading example after its first MAP-DIE. -/
theorem counted_loaded1 : loaded1.MapCounted := by
  refine fun _ => ⟨by decide, fun d => ?_, fun h => ?_⟩
  · cases d <;> decide
  · exact absurd h (by decide)

theorem witness_MapAbandon :
    (fetched loaded1).MapCounted ∧ idleAt (fetched loaded1) .cell = true
      ∧ answer (.mapAbandon 1 []) (fetched loaded1) .cell = some (.done, [3])
      ∧ (ran (.mapAbandon 1 []) (fetched loaded1)).map.phase = .none
      ∧ answer (.mapAbandon 1 [0]) (fetched loaded1) .cell = some (.badparam, [])
      ∧ answer (.mapAbandon 1 []) running .cell = some (.state, [])
      ∧ answer (.mapAbandon 1 []) (withMap running [.placed]) .cell = some (.state, [])
      ∧ answer (.readDie 1 [0]) running .cell = some (.state, []) :=
  ⟨counted_loaded1, by decide⟩

/-- A READY map with a SUSPECT die 1. -/
def suspectDie : State := withMap running [.placed, .suspect, .carried]

theorem witness_WaferCloseAndResolve :
    idleAt suspectDie .cell = true ∧ (∀ w, running.map.phase ≠ .ready w)
      ∧ answer (.waferClose 1 []) suspectDie .cell = some (.done, [0x0517, 0, 0, 0, 0, 1, 1, 0, 1, 0])
      ∧ noticed (.waferClose 1 []) suspectDie = some (.waferClosed, [0x0517, 1, 0, 1])
      ∧ answer (.waferClose 1 []) (withMap running [.reserved]) .cell = some (.state, [])
      ∧ answer (.waferClose 1 []) running .cell = some (.state, [])
      ∧ answer (.resolve 1 [1, 0]) suspectDie .cell = some (.done, [0])
      ∧ answer (.resolve 1 [1, 1]) suspectDie .cell = some (.done, [6])
      ∧ answer (.resolve 1 [1, 2]) suspectDie .cell = some (.badparam, [])
      ∧ answer (.resolve 1 [3, 0]) suspectDie .cell = some (.badparam, [])
      ∧ answer (.resolve 1 [2, 0]) suspectDie .cell = some (.state, [])
      ∧ answer (.resolve 1 [1, 0]) running .cell = some (.state, []) :=
  ⟨by decide, (fun w h => by cases h), by decide⟩

theorem witness_ReadDie :
    loaded1.MapCounted ∧ idleAt suspectDie .cell = true
      ∧ answer (.readDie 1 [2]) (fetched loaded1) .cell = some (.done, [2, 0x0517, 2, 0, 2, 0, 0, 0, 0])
      ∧ answer (.readDie 1 [3]) (fetched loaded1) .cell = some (.badparam, [])
      ∧ answer (.readDie 1 [0]) (ran (.reserve .B 1 []) (withMap running [.available])) .cell
        = some (.done, [0, 0x0517, 0, 0, 1, 1, 0, 0, 2])
      ∧ answer (.readDie 1 [1]) (ran (.resolve 1 [1, 1]) suspectDie) .cell
        = some (.done, [1, 0x0517, 1, 0, 1, 6, 0, 8, 0])
      ∧ answer (.readDie 1 [0]) running .cell = some (.state, [])
      ∧ answer (.readDie 1 []) suspectDie .cell = some (.badparam, []) :=
  ⟨counted_loaded1, by decide⟩

/-! ## Witnesses: the track on the cell port -/

/-- The first strip of the three-index example on a track of 8 positions of 2 rows. -/
def shortTrack : State := { inSetup with
  settings := { Settings.default with trackLength := 8, rows := 2 }
  track := { Track.reset with strips := [⟨301, 4, 0, [3, 3, 3, 3]⟩, ⟨302, 2, 0, [1, 1]⟩] } }

theorem witness_StripLoadAndBad :
    (answer (.stripLoad 1 [301, 4, 3]) inSetup .cell = some (.done, [1])
      ∧ answer (.stripLoad 1 [303, 64, 255]) shortTrack .cell = some (.done, [3])
      ∧ answer (.stripLoad 1 [301, 4, 3]) shortTrack .cell = some (.state, [])
      ∧ answer (.stripLoad 1 [7, 4, 3]) canPlace .cell = some (.state, [])
      ∧ answer (.stripLoad 1 [9, 0, 3]) inSetup .cell = some (.badparam, [1])
      ∧ answer (.stripLoad 1 [9, 65, 256]) inSetup .cell = some (.badparam, [1])
      ∧ answer (.stripLoad 1 [9, 1, 256]) inSetup .cell = some (.badparam, [2])
      ∧ answer (.stripLoad 1 [9, 1, 1]) { inSetup with track := { Track.reset with
          strips := [⟨1, 1, 0, [1]⟩, ⟨2, 1, 0, [1]⟩, ⟨3, 1, 0, [1]⟩, ⟨4, 1, 0, [1]⟩] } } .cell = some (.full, [])
      ∧ answer (.stripBad 1 [301, 2, 2]) shortTrack .cell = some (.done, [1]))
      ∧ (ran (.stripBad 1 [301, 2, 2]) shortTrack).track.strips.head?.map Strip.masks = some [3, 3, 1, 3]
      ∧ answer (.stripBad 1 [302, 2, 1]) shortTrack .cell = some (.badparam, [])
      ∧ answer (.stripBad 1 [303, 0, 1]) shortTrack .cell = some (.state, [])
      ∧ answer (.stripBad 1 [301, 0, 1]) { shortTrack with track := { shortTrack.track with
          strips := [⟨301, 4, 1, [3, 3, 3, 3]⟩] } } .cell = some (.state, [])
      ∧ answer (.stripBad 1 [301, 64, 1]) shortTrack .cell = some (.badparam, [])
      ∧ answer (.stripBad 1 [301, 63, 256]) shortTrack .cell = some (.badparam, [])
      ∧ answer (.stripBad 1 [7, 3, 0xFF]) canPlace .cell = some (.done, [3])
      ∧ (ran (.stripBad 1 [7, 3, 2]) canPlace).siteAt 20 1 = some .absent :=
  ⟨by decide, by decide⟩

theorem witness_IndexRequestAndCancel :
    (idleAt dispensingSite .cell = true ∧ dispensingSite.mode ≠ .halt ∧ dispensingSite.inFlight = 1 ∧ inSetup.inFlight = 0
      ∧ answer (.indexRequest 1 [0]) running .cell = some (.badparam, [])
      ∧ answer (.indexRequest 1 [9]) running .cell = some (.badparam, [])
      ∧ answer (.indexRequest 1 [8]) dispensingSite .cell = some (.done, [1])
      ∧ (ran (.indexRequest 1 [8]) dispensingSite).track.phase = .draining 8
      ∧ answer (.indexRequest 1 [3]) shortTrack .cell = some (.done, [0]))
      ∧ noticed (.indexRequest 1 [3]) shortTrack = some (.indexReady, [3, 0])
      ∧ noticed (.indexRequest 1 [1]) (withSite running 39 .clean) = some (.indexReady, [1, 1])
      ∧ answer (.indexRequest 1 [1]) { running with track := { Track.reset with phase := .moving 3 } } .cell
        = some (.state, [2])
      ∧ (ran (.indexCancel 1 []) (ran (.indexRequest 1 [8]) dispensingSite)).track.phase = .still
      ∧ answer (.indexCancel 1 []) running .cell = some (.state, [0])
      ∧ (ran (.dispensed 1 [7, 3, 0]) (ran (.indexRequest 1 [2]) dispensingSite)).track.phase = .moving 2 :=
  ⟨by decide, by decide⟩

/-- The first move of the three-index example has begun. -/
def firstMove : State := ran (.indexRequest 1 [3]) (ran (.stripBad 1 [301, 2, 2]) shortTrack)

/-- A column whose sites are BONDED, WET, CLEAN and ABSENT stands at the last position. -/
def lastColumn : State := { running.setColumn 39 (some ⟨7, 3, [.bonded stamp false 0 0x0517, .wet stamp, .clean, .absent]⟩) with
  dispenser := ⟨none, none, 1⟩ }

theorem witness_IndexDoneAndTrackClear :
    (idleAt (fetched firstMove) .cell = true ∧ firstMove.track.phase = .moving 3
      ∧ answer (.indexDone 1 []) (fetched firstMove) .cell = some (.done, [0, 3, 0, 61])
      ∧ (ran (.indexDone 1 []) (fetched firstMove)).columnAt 2 = some ⟨301, 0, [.clean, .clean]⟩
      ∧ (ran (.indexDone 1 []) (fetched firstMove)).columnAt 0 = some ⟨301, 2, [.clean, .absent]⟩
      ∧ (ran (.indexDone 1 []) (fetched firstMove)).track.strips.head?.map Strip.next = some 3
      ∧ answer (.indexDone 1 []) running .cell = some (.state, [0]))
      ∧ (lastColumn.removeColumn 39).report.notices.map (fun n => (n.kind, n.data))
        = [(.columnExit, [7, 3, 0x0101, 0x0101])]
      ∧ (lastColumn.removeColumn 39).dispenser.wet = 0
      ∧ answer (.trackClear 1 []) shortTrack .cell = some (.done, [0, 2])
      ∧ answer (.trackClear 1 []) (withSite shortTrack 7 .clean) .cell = some (.done, [1, 2])
      ∧ answer (.trackClear 1 []) firstMove .cell = some (.state, [2]) :=
  ⟨by decide, by decide⟩

/-! ## Witnesses: the readings, the reports and the recovery on the cell port -/

theorem witness_Readings :
    (idleAt running .cell = true ∧ idleAt (carrying running) .headA = true
      ∧ answer (.claims .A 1 []) (carrying running) .headA = some (.done, [1, 0, 0x0517, 0, 0, 1, 4, 0, 0, 900])
      ∧ answer (.readClaims 1 [3]) running .cell = some (.badparam, [])
      ∧ answer (.readClaims 1 [2]) running .cell = some (.done, [0])
      ∧ answer (.readSite 1 [40, 0]) running .cell = some (.badparam, [])
      ∧ answer (.readSite 1 [39, 8]) running .cell = some (.badparam, [])
      ∧ answer (.readSite 1 [20, 0]) canPlace .cell = some (.done, [4, 7, 3, 0, 0, 0, 0, 0, 0, 900, 0, 30900, 0, 0, 0, 0]))
      ∧ answer (.readSite 1 [20, 7]) canPlace .cell = some (.done, [0, 7, 3, 0, 0, 0, 0, 0, 0, 0, 0, 0, 0, 0, 0, 0])
      ∧ answer (.readStatus 1 [3]) running .cell = some (.badparam, [])
      ∧ (answer (.readStatus 1 [0]) inSetup .cell).map (fun a => (a.1, a.2.head?)) = some (.done, some 1)
      ∧ (answer (.readStatus 1 [2]) inSetup .cell).map (fun a => (a.1, a.2.length)) = some (.done, 21)
      ∧ (answer (.readStation 1 []) running .cell).map Prod.fst = some .done
      ∧ (answer (.portStatus .dispense 1 []) (holding running .dispense .nextSite [] (some 2000)) .dispense)
        = some (.done, [0, 0x5005, 0x04, 0, 2000, 0, 0, 0, 0, 0]) :=
  ⟨by decide, by decide⟩

theorem witness_ReadingsOfStationAndPorts :
    answer (.readStation 1 []) delivered .cell = some (.done, [2, 1, 0, 0x0517, 0, 1000, 0, 2000, 0, 995, 0, 0, 0, 0, 0])
      ∧ answer (.readStation 1 []) pickWaits .cell = some (.done, List.replicate 10 0 ++ [1, 1, 0, 0, 0])
      ∧ (answer (.portStatus .table 1 []) (owing running .table 7) .table).map Prod.fst = some .done
      ∧ (owing (holding running .headA .reserve [] none) .headA 6).Settled
      ∧ (answer (.portStatus .headA 1 []) (owing (holding running .headA .reserve [] none) .headA 6) .headA).map Prod.fst
        = some .done
      ∧ running.map.phase = .none ∧ (withMap running [.placed]).map.phase = .ready wafer ∧ running.mode = .run
      ∧ delivered.arbiter.station = .delivered ⟨0, 0x0517, .A, 1000, 2000⟩ 995 := by
  refine ⟨by decide, by decide, by decide, by unfold State.Settled; decide, by decide⟩

/-- A bond record with a sequence number. -/
def record (n : BitVec 32) : BondRecord :=
  ⟨n, 0x0517, 0, 0, 0, 1, 0, 7, 3, 0, 20, .A, false, 900, .capture, 1000, .arrival, 29900⟩

theorem witness_RecordFields : (record 8).bin ≤ 15 ∧ (record 8).dieColumn ≤ 511 ∧ (record 8).dieRow ≤ 511
    ∧ (record 8).stripColumn ≤ 63 ∧ (record 8).position ≤ 63 ∧ (record 8).row ≤ 7 ∧ (record 8).retries ≤ 3 := by decide

/-- `k` notices wait and `n` have been dropped. -/
def noticesWait (k n : Nat) : State := { running with report := { ReportUnit.reset with
  notices := List.replicate k ⟨.waferEmpty, 7, [5, 6]⟩, dropped := n } }

theorem witness_LogAndNotices :
    (answer (.readLog 1 [0]) running .cell = some (.badparam, []) ∧ answer (.readLog 1 [3]) running .cell = some (.badparam, [])
      ∧ answer (.readLog 1 [2]) running .cell = some (.none, [])
      ∧ answer (.readLog 1 [1]) { running with report := { ReportUnit.reset with log := [record 8, record 9] } } .cell
        = some (.done, [0, 8, 0x0517, 0, 0x1000, 0, 7, 0x0314, 0x2010, 0, 900, 0, 1000, 0, 29900])
      ∧ (ran (.readLog 1 [2]) { running with report := { ReportUnit.reset with log := [record 8, record 9] } }).report.log = []
      ∧ answer (.readNotices 1 [5]) running .cell = some (.badparam, [])
      ∧ answer (.readNotices 1 [0]) running .cell = some (.badparam, []))
      ∧ answer (.readNotices 1 [4]) running .cell = some (.none, [])
      ∧ answer (.readNotices 1 [1]) (noticesWait 1 0) .cell = some (.done, [0x020A, 0, 7, 5, 6, 0, 0])
      ∧ (ran (.readNotices 1 [4]) (noticesWait 32 2)).report.notices.length = 29
      ∧ noticed (.readNotices 1 [4]) (noticesWait 32 2) = some (.noticesDropped, [2])
      ∧ ((noticesWait 31 0).notify .waferLow []).report.notices.length = 32
      ∧ ((noticesWait 32 65535).notify .waferLow []).report.dropped = 65535 :=
  ⟨by decide, by decide⟩

/-- A disabled head A carries a die. -/
def disabledCarrying : State := { carrying running with headEnabled := ⟨false, true⟩ }

theorem witness_Recovery :
    (idleAt disabledCarrying .cell = true ∧ running.headEnabled.get .A = true
      ∧ answer (.headEnable 1 [1, 0]) running .cell = some (.done, [0])
      ∧ ((ran (.headEnable 1 [1, 0]) running).link .headA).causes = [⟨.headDisabled, true⟩]
      ∧ ((ran (.headEnable 1 [1, 0]) (abortedAt running .headA false)).link .headA).causes
        = [⟨.masterAbort, false⟩, ⟨.headDisabled, true⟩]
      ∧ ((ran (.headEnable 1 [1, 1]) (ran (.headEnable 1 [1, 0]) running)).link .headA).causes = [⟨.headDisabled, false⟩]
      ∧ answer (.headEnable 1 [1, 0]) disabledCarrying .cell = some (.done, [0])
      ∧ answer (.headEnable 1 [2, 1]) running .cell = some (.done, [1])
      ∧ answer (.headEnable 1 [3, 1]) running .cell = some (.badparam, []))
      ∧ answer (.headEnable 1 [1, 2]) running .cell = some (.badparam, [])
      ∧ answer (.forfeit 1 [1]) disabledCarrying .cell = some (.done, [0, 0x0517])
      ∧ noticed (.forfeit 1 [1]) disabledCarrying = some (.dieLost, [0, 0x0517, 10, 1])
      ∧ answer (.forfeit 1 [2]) disabledCarrying .cell = some (.state, [])
      ∧ answer (.forfeit 1 [1]) { running with headEnabled := ⟨false, true⟩ } .cell = some (.none, [])
      ∧ answer (.forfeit 1 [0]) running .cell = some (.badparam, [])
      ∧ answer (.lampAck 1 []) { running with spoilLatch := true } .cell = some (.done, [1])
      ∧ answer (.lampAck 1 []) running .cell = some (.done, [0]) :=
  ⟨by decide, by decide⟩

/-- FORFEIT wakes head B's RESERVE as it removes the entry, so the selection's notice stands before DIE-LOST (R199). -/
theorem test_forfeit_wakes_before_its_notice :
    (ran (.forfeit 1 [1]) (holding disabledCarrying .headB .reserve [] none)).report.notices.map Notice.kind
        = [.waferEmpty, .dieLost]
      ∧ answer (.forfeit 1 [1]) (holding disabledCarrying .headB .reserve [] none) .headB = some (.none, []) := by decide

end Sys2Proof.Tests
end

section
/-! THEOREMS. The die map on the cell port: MAP-DIE (R6, R7), MAP-ABANDON (R9) and READ-DIE (R12). Each request is handed
to the die map in the event of its arrival; what the die map then does is said once, one equation for each case. -/

namespace Sys2Proof.Machine

open Sys2Proof

/-! ## A cell-port request on an idle port -/

/-- A queued request of the cell port's role is met by its block in the state `handed` names. -/
theorem request_cell_handed {s : State} {c : Command} {tag : Byte} {words : List Word} (idle : s.Idle .cell)
    (fits : words.length ≤ 24) (imm : Port.cell.isImmediate c.code = false) (role : Port.cell.command c.code = some c) :
    s.request .cell c tag words = takeCommand .cell c (c.request tag words) (s.handed .cell c tag words) :=
  request_idle idle fits imm role

theorem exec_mapDie_of_taken {s t : State} {tag : Byte} {words : List Word} (idle : s.Idle .cell)
    (fits : words.length ≤ 24)
    (taken : takeMapDie (Command.mapDie.request tag words) (s.handed .cell .mapDie tag words) = t) :
    exec (.mapDie tag words) s = .next t :=
  congrArg _ ((request_cell_handed (c := .mapDie) idle fits (by decide) (by decide)).trans taken)

theorem exec_mapAbandon_of_taken {s t : State} {tag : Byte} {words : List Word} (idle : s.Idle .cell)
    (fits : words.length ≤ 24)
    (taken : takeMapAbandon (Command.mapAbandon.request tag words) (s.handed .cell .mapAbandon tag words) = t) :
    exec (.mapAbandon tag words) s = .next t :=
  congrArg _ ((request_cell_handed (c := .mapAbandon) idle fits (by decide) (by decide)).trans taken)

theorem exec_waferClose_of_taken {s t : State} {tag : Byte} {words : List Word} (idle : s.Idle .cell)
    (fits : words.length ≤ 24)
    (taken : takeWaferClose (Command.waferClose.request tag words) (s.handed .cell .waferClose tag words) = t) :
    exec (.waferClose tag words) s = .next t :=
  congrArg _ ((request_cell_handed (c := .waferClose) idle fits (by decide) (by decide)).trans taken)

theorem exec_readDie_of_taken {s t : State} {tag : Byte} {words : List Word} (idle : s.Idle .cell)
    (fits : words.length ≤ 24)
    (taken : takeReadDie (Command.readDie.request tag words) (s.handed .cell .readDie tag words) = t) :
    exec (.readDie tag words) s = .next t :=
  congrArg _ ((request_cell_handed (c := .readDie) idle fits (by decide) (by decide)).trans taken)

/-! ## Die records and the phase of the map -/

theorem MapPhase.info_of_loading_or_ready {p : MapPhase} {w : WaferInfo} (h : p = .loading w ∨ p = .ready w) :
    p.info = some w := by
  rcases h with rfl | rfl <;> rfl

/-- While a map is loaded, every index below the next index has a record (R3, R6). -/
theorem record_of_index_lt_nextIndex {s : State} (counted : s.MapCounted) (loaded : s.map.phase ≠ .none) {i : Nat}
    (h : i < s.map.nextIndex) : ∃ d, s.map.table[i]? = some d := by
  obtain ⟨stored, -, -⟩ := counted loaded
  exact ⟨s.map.table[i], List.getElem?_eq_getElem (stored ▸ h)⟩

theorem word_toNat (w : Word) : word w.toNat = w := by simp [word]

/-! ## READ-DIE taken (R12) -/

section

variable {r : Request} {s : State} {w : WaferInfo} {index : Word}

theorem takeReadDie_of_wrong_count (h : r.words.length ≠ 1) : takeReadDie r s = s.reply .cell r.tag .badparam [] := by
  simp [takeReadDie, h]

theorem takeReadDie_of_no_map (hw : r.words = [index]) (h : s.map.phase = .none) :
    takeReadDie r s = s.reply .cell r.tag .state [] := by
  simp [takeReadDie, hw, h, MapPhase.info]

theorem takeReadDie_of_not_stored (hw : r.words = [index]) (h : s.map.phase.info = some w)
    (beyond : s.map.nextIndex ≤ index.toNat) : takeReadDie r s = s.reply .cell r.tag .badparam [] := by
  simp [takeReadDie, hw, h, natAt, wordAt, beyond]

theorem takeReadDie_of_stored {d : DieRecord} {ws : List Word} (hw : r.words = [index]) (h : s.map.phase.info = some w)
    (below : index.toNat < s.map.nextIndex) (hd : s.map.table[index.toNat]? = some d)
    (nine : dieWords index.toNat w.wafer d = ws) : takeReadDie r s = s.reply .cell r.tag .done ws := by
  simp [takeReadDie, hw, h, natAt, wordAt, Nat.not_le.mpr below, hd, nine]

end

/-- Settles O54: the four cases of READ-DIE; the record is there because the next index is the table's length. -/
theorem readDieGivesTheRecord : Obligations.ReadDieGivesTheRecord := by
  rintro s tag words a idle fits rfl
  refine ⟨fun count => exec_readDie_of_taken idle fits (takeReadDie_of_wrong_count count), ?_⟩
  rintro index rfl
  refine ⟨fun noMap => exec_readDie_of_taken idle fits (takeReadDie_of_no_map rfl noMap), fun w loaded => ?_⟩
  have info : s.map.phase.info = some w := MapPhase.info_of_loading_or_ready loaded
  refine ⟨fun beyond => exec_readDie_of_taken idle fits (takeReadDie_of_not_stored rfl info beyond),
    fun counted below => ?_⟩
  have present : s.map.phase ≠ .none := by rintro e; simp [e] at loaded
  obtain ⟨d, hd⟩ := record_of_index_lt_nextIndex counted present below
  refine ⟨d, hd, exec_readDie_of_taken idle fits (takeReadDie_of_stored rfl info below hd ?_)⟩
  rw [dieWords, word_toNat]
  rcases d with ⟨column, row, bin, state, retries, _ | cause, _ | _ | _⟩ <;> rfl

/-! ## MAP-ABANDON taken (R9), and the WAFER-CLOSE that ends a READY map (R11) -/

section

variable {r : Request} {s : State} {w : WaferInfo}

theorem takeMapAbandon_of_words (h : r.words ≠ []) : takeMapAbandon r s = s.reply .cell r.tag .badparam [] := by
  simp [takeMapAbandon, h]

theorem takeMapAbandon_of_loading (hw : r.words = []) (h : s.map.phase = .loading w) :
    takeMapAbandon r s = (s.setMap s.map.abandoned).reply .cell r.tag .done [word s.map.nextIndex] := by
  simp [takeMapAbandon, hw, h]

theorem takeMapAbandon_of_not_loading (hw : r.words = []) (h : ∀ w, s.map.phase ≠ .loading w) :
    takeMapAbandon r s = s.reply .cell r.tag .state [] := by
  cases e : s.map.phase with
  | none => simp [takeMapAbandon, hw, e]
  | loading w => exact absurd e (h w)
  | ready w => simp [takeMapAbandon, hw, e]

/-- A WAFER-CLOSE with no die RESERVED, STAGING or PRESENTED leaves no map. -/
theorem takeWaferClose_phase_of_not_busy (hw : r.words = []) (h : s.map.phase = .ready w)
    (idle : s.map.counts.busy = false) : (takeWaferClose r s).map.phase = .none := by
  simp [takeWaferClose, hw, readyWafer_of_ready h, idle, DieMap.closed]

end

/-- Settles O52: in LOADING the number stored is the table's length, and nothing else than the map is changed. -/
theorem mapAbandonMakesALoadingMapNone : Obligations.MapAbandonMakesALoadingMapNone := by
  rintro s tag a idle rfl
  refine ⟨fun words carries fits => exec_mapAbandon_of_taken idle fits (takeMapAbandon_of_words carries),
    fun w loading counted => ?_,
    fun other => exec_mapAbandon_of_taken idle (by simp) (takeMapAbandon_of_not_loading rfl other),
    fun noMap index => exec_readDie_of_taken idle (by simp) (takeReadDie_of_no_map rfl noMap),
    fun w ready reserved staging presented => ?_⟩
  · obtain ⟨stored, -, -⟩ := counted (by simp [loading])
    rw [← stored]
    exact ⟨s.map.abandoned, exec_mapAbandon_of_taken idle (by simp) (takeMapAbandon_of_loading rfl loading), rfl⟩
  · have free : s.map.counts.busy = false := by simp [DieCounts.busy, reserved, staging, presented]
    exact ⟨_, exec_waferClose_of_taken idle (by simp) rfl, takeWaferClose_phase_of_not_busy rfl ready free⟩

/-! ## The entries of a MAP-DIE (R6, R7) -/

/-- The entry that a column word and a row word spell: row in bits 8:0, bin in bits 15:12, bits 11:9 to be zero. -/
theorem entriesOf_cons_cons (c d : Word) (rest : List Word) :
    entriesOf (c :: d :: rest) = ⟨c.toNat, d.toNat % 512, d.toNat / 4096, d.toNat / 512 % 8⟩ :: entriesOf rest := by
  have bin : d.toNat / 4096 % 16 = d.toNat / 4096 := Nat.mod_eq_of_lt (by omega)
  simp [entriesOf, BitVec.extractLsb'_toNat, Nat.shiftRight_eq_div_pow, bin]

theorem entriesOf_flatMap (entries : List (Word × Word)) :
    entriesOf (entries.flatMap fun e => [e.1, e.2])
      = entries.map fun e => ⟨e.1.toNat, e.2.toNat % 512, e.2.toNat / 4096, e.2.toNat / 512 % 8⟩ := by
  induction entries with
  | nil => rfl
  | cons e rest ih => simp [entriesOf_cons_cons, ih]

section

variable {w : WaferInfo} {m : DieMap} {e : MapEntry}

theorem entryRefusal_of_all_stored (full : m.nextIndex = w.dieCount) : m.entryRefusal w e = some .full := by
  simp [DieMap.entryRefusal, full]

theorem entryRefusal_of_bad_field (room : m.nextIndex ≠ w.dieCount)
    (bad : w.columns ≤ e.column ∨ w.rows ≤ e.row ∨ e.spare ≠ 0) : m.entryRefusal w e = some .badparam := by
  simp [DieMap.entryRefusal, room, bad]

/-- An entry with good fields on a map with room is judged by its position's mark alone. -/
theorem entryRefusal_of_good_fields (room : m.nextIndex ≠ w.dieCount) (column : e.column < w.columns)
    (row : e.row < w.rows) (spare : e.spare = 0) :
    m.entryRefusal w e = if m.bitmap.contains (e.column, e.row) then some .state else none := by
  simp [DieMap.entryRefusal, room, Nat.not_le.mpr column, Nat.not_le.mpr row, spare]

theorem storeEntries_of_refused {code : ReplyCode} (h : m.entryRefusal w e = some code) (rest : List MapEntry) :
    storeEntries w (e :: rest) m = (code, 0, m) := by
  simp [storeEntries, h]

theorem storeEntries_of_stored {rest : List MapEntry} {code : ReplyCode} {k : Nat} {z : DieMap}
    (h : m.entryRefusal w e = none) (hr : storeEntries w rest (m.store e) = (code, k, z)) :
    storeEntries w (e :: rest) m = (code, k + 1, z) := by
  simp [storeEntries, h, hr]

end

/-! ## MAP-DIE taken (R6, R7) -/

theorem mapDieFits_iff (n : Nat) : mapDieFits n = true ↔ n % 2 = 1 ∧ 3 ≤ n ∧ n ≤ 23 := by
  simp [mapDieFits, and_assoc]

section

variable {r : Request} {s : State} {w : WaferInfo}

theorem takeMapDie_of_misfit (h : mapDieFits r.words.length = false) :
    takeMapDie r s = s.reply .cell r.tag .badparam [word s.map.nextIndex, 0] := by
  simp [takeMapDie, h]

theorem takeMapDie_of_not_loading (fits : mapDieFits r.words.length = true) (h : ∀ w, s.map.phase ≠ .loading w) :
    takeMapDie r s = s.reply .cell r.tag .state [word s.map.nextIndex, 0] := by
  cases e : s.map.phase with
  | none => simp [takeMapDie, fits, e]
  | loading w => exact absurd e (h w)
  | ready w => simp [takeMapDie, fits, e]

theorem takeMapDie_of_wrong_start (fits : mapDieFits r.words.length = true) (h : s.map.phase = .loading w)
    (start : natAt r.words 0 ≠ s.map.nextIndex) :
    takeMapDie r s = s.reply .cell r.tag .badparam [word s.map.nextIndex, 0] := by
  simp [takeMapDie, fits, h, start]

theorem takeMapDie_of_next_start {code : ReplyCode} {k : Nat} {m : DieMap} (fits : mapDieFits r.words.length = true)
    (h : s.map.phase = .loading w) (start : natAt r.words 0 = s.map.nextIndex)
    (hm : storeEntries w (entriesOf r.words.tail) s.map = (code, k, m)) :
    takeMapDie r s = (s.setMap m).reply .cell r.tag code [word m.nextIndex, word k] := by
  simp [takeMapDie, fits, h, start, hm]

end

/-- Settles O50: the refusals of a whole MAP-DIE in order, then its entries stored one by one up to the first refused. -/
theorem mapDieStoresEntriesInOrder : Obligations.MapDieStoresEntriesInOrder := by
  refine ⟨fun s tag words idle short misshapen => ?_, ?_, fun w m => ⟨rfl, fun e rest => ⟨fun full => ?_, fun room bad => ?_,
    fun room column row spare => ⟨fun marked => ?_, fun fresh code k z stored => ?_⟩⟩⟩⟩
  · have misfit : mapDieFits words.length = false := by
      rw [Bool.eq_false_iff, Ne, mapDieFits_iff]
      omega
    exact exec_mapDie_of_taken idle short (takeMapDie_of_misfit misfit)
  · rintro s tag start entries words a idle atLeastOne atMostEleven rfl rfl
    have count : (start :: entries.flatMap fun e => [e.1, e.2]).length = 1 + 2 * entries.length := by
      simp [Nat.mul_comm, Nat.add_comm]
    have fits : mapDieFits (start :: entries.flatMap fun e => [e.1, e.2]).length = true := by
      rw [mapDieFits_iff, count]
      omega
    have short : (start :: entries.flatMap fun e => [e.1, e.2]).length ≤ 24 := by omega
    refine ⟨fun other => exec_mapDie_of_taken idle short (takeMapDie_of_not_loading fits other), fun w loading =>
      ⟨fun wrong => exec_mapDie_of_taken idle short (takeMapDie_of_wrong_start fits loading wrong),
        fun next code k m stored => ?_⟩⟩
    rw [← entriesOf_flatMap] at stored
    exact exec_mapDie_of_taken idle short (takeMapDie_of_next_start fits loading next stored)
  · exact storeEntries_of_refused (entryRefusal_of_all_stored full) rest
  · exact storeEntries_of_refused (entryRefusal_of_bad_field room bad) rest
  · exact storeEntries_of_refused (by rw [entryRefusal_of_good_fields room column row spare, if_pos marked]) rest
  · have accepted : m.entryRefusal w e = none := by
      rw [entryRefusal_of_good_fields room column row spare, fresh]
      rfl
    exact storeEntries_of_stored accepted stored

end Sys2Proof.Machine
end

section
/-! THEOREMS. GET on the cell port (R170): the reply it makes, the frame that INIT discards, and the settings table read
back: a stored value is within what its setting's field holds, so that the read gives the value of the write. -/

namespace Sys2Proof.Machine

open Sys2Proof

/-! ## GET taken (R170) -/

theorem settingKnown_iff (id : Nat) : settingKnown id = true ↔ 1 ≤ id ∧ id ≤ 38 := by
  simp [settingKnown]

section

variable {r : Request} {s : State} {id : Word}

theorem takeGet_of_wrong_count (h : r.words.length ≠ 1) : takeGet r s = s.reply .cell r.tag .badparam [] := by
  simp [takeGet, h]

theorem takeGet_of_unknown (hw : r.words = [id]) (h : settingKnown id.toNat = false) :
    takeGet r s = s.reply .cell r.tag .badparam [] := by
  simp [takeGet, hw, natAt, wordAt, h]

theorem takeGet_of_known (hw : r.words = [id]) (h : settingKnown id.toNat = true) :
    takeGet r s = s.reply .cell r.tag .done (wordsInt (s.settings.get id.toNat)) := by
  simp [takeGet, hw, natAt, wordAt, h]

end

theorem exec_get_of_taken {s t : State} {tag : Byte} {words : List Word} (idle : s.Idle .cell)
    (fits : words.length ≤ 24) (taken : takeGet (Command.get.request tag words) (s.handed .cell .get tag words) = t) :
    exec (.get tag words) s = .next t :=
  congrArg _ ((request_cell_handed (c := .get) idle fits (by decide) (by decide)).trans taken)

/-! ## A request frame in INIT (R176) -/

/-- In INIT a request frame is discarded when it ends, whatever it carries. -/
theorem arrive_of_init {s : State} {p : Port} {r : Request} (running : s.inReset = false) (init : s.mode = .init)
    (code : r.code ≠ 0) : s.arrive p r = (s.framed p r).discard p := by
  have begun : s.beginFrame p = s.setLink p { s.link p with selectLow := true, frame := some (s.newFrame p) } := by
    simp [State.beginFrame, running]
  have length : (frameBytes r).length - 1 = 2 + 2 * r.words.length := by rw [length_frameBytes]; omega
  have bytes : frameBytes r = r.code :: (frameBytes r).tail := rfl
  have stillRunning : (s.beginFrame p).inReset = false := by rw [begun]; exact running
  rw [State.arrive, bytes, endFrame_request stillRunning code, ← bytes, State.endRequest, begun, length]
  simp [init, State.endingFrame, Link.endFrame, State.framed, State.newFrame, statusByte_zero]

theorem framed_discard (s : State) (p : Port) (r : Request) :
    (s.framed p r).discard p = s.setLink p { s.link p with
      selectLow := false
      frame := none
      lost := true
      lostFrames := min ((s.link p).lostFrames + 1) 65535
      sdo := s.statusByte p :: List.replicate (2 + 2 * r.words.length) 0 } := by
  simp [State.discard, Link.discard, State.framed, satAdd]

/-! ## What a write stores (R169) -/

theorem clampTo_bounds {lo hi : Int} (h : lo ≤ hi) (v : Int) : lo ≤ clampTo lo hi v ∧ clampTo lo hi v ≤ hi := by
  unfold clampTo
  split
  · omega
  · split <;> omega

/-- From REJECT-LIMIT on, the numeric ranges lie within 0..65535. -/
theorem settingRange_bounds : ∀ n < 30, 5 ≤ n →
    0 ≤ (settingRange n).1 ∧ (settingRange n).1 ≤ (settingRange n).2 ∧ (settingRange n).2 ≤ 65535 := by
  decide

theorem configOk_iff (n : Nat) (v : Int) : configOk n v = true ↔ 0 ≤ v ∧ v < configMask n := by
  simp [configOk]

theorem configMask_of_attn {n : Nat} (first : 30 ≤ n) (last : n ≤ 34) : configMask n = 32 := by
  simp [configMask, isAttn, first, last]

theorem configMask_of_lamp {n : Nat} (first : 35 ≤ n) : configMask n = 128 := by
  have lamp : ¬ n ≤ 34 := by omega
  simp [configMask, isAttn, lamp]

/-- Clamping the fields of a configuration word sets none of its unused bits. -/
theorem clampConfig_bounds {n : Nat} {v : Int} (ok : configOk n v = true) :
    0 ≤ clampConfig n v ∧ clampConfig n v < 128 := by
  obtain ⟨nonneg, below⟩ := (configOk_iff n v).mp ok
  unfold configMask at below
  simp only [clampConfig]
  split
  · next attn => rw [if_pos attn] at below; omega
  · next lamp => rw [if_neg lamp] at below; omega

/-- The value stored under a setting that is kept unsigned fits in 16 bits. -/
theorem storedValue_bounds {n : Nat} (unsigned : 5 ≤ n) (z : Int) (ok : 30 ≤ n → configOk n z = true) :
    0 ≤ storedValue n z ∧ storedValue n z ≤ 65535 := by
  unfold storedValue isConfig
  split
  · next config =>
    have := clampConfig_bounds (ok (of_decide_eq_true config))
    omega
  · next numeric =>
    obtain ⟨lo, ordered, hi⟩ := settingRange_bounds n (by simpa using numeric) unsigned
    have := clampTo_bounds ordered z
    omega

/-! ## The settings table, read after a write -/

theorem toNat_wordInt {v : Int} (nonneg : 0 ≤ v) (fits : v ≤ 65535) : ((wordInt v).toNat : Int) = v := by
  rw [wordInt, BitVec.toNat_ofInt]
  omega

section

variable (t : Settings) {n : Nat} {v : Int}

/-- The travel limits are kept as signed numbers. -/
theorem get_put_of_travel (first : 1 ≤ n) (last : n ≤ 4) : (t.put n v).get n = v := by
  interval_cases n <;> rfl

/-- The numeric settings but the travel limits and BIN-SET are kept as natural numbers. -/
theorem get_put_of_natural (natural : n = 29 ∨ 5 ≤ n ∧ n ≤ 27) (nonneg : 0 ≤ v) : (t.put n v).get n = v := by
  have kept : (v.toNat : Int) = v := Int.toNat_of_nonneg nonneg
  obtain rfl | ⟨first, last⟩ := natural
  · exact kept
  · interval_cases n <;> exact kept

/-- BIN-SET and the configuration settings are kept as words. -/
theorem get_put_of_word (asWord : n = 28 ∨ 30 ≤ n ∧ n ≤ 38) (nonneg : 0 ≤ v) (fits : v ≤ 65535) :
    (t.put n v).get n = v := by
  have kept : ((wordInt v).toNat : Int) = v := toNat_wordInt nonneg fits
  obtain rfl | ⟨first, last⟩ := asWord
  · exact kept
  · interval_cases n <;> exact kept

/-- A setting that is known reads back what a write stored under it. -/
theorem get_put_storedValue (first : 1 ≤ n) (last : n ≤ 38) (z : Int) (ok : 30 ≤ n → configOk n z = true) :
    (t.put n (storedValue n z)).get n = storedValue n z := by
  by_cases travel : n ≤ 4
  · exact get_put_of_travel t first travel
  obtain ⟨nonneg, fits⟩ := storedValue_bounds (by omega) z ok
  by_cases asWord : n = 28 ∨ 30 ≤ n
  · exact get_put_of_word t (by omega) nonneg fits
  · exact get_put_of_natural t (by omega) nonneg

/-- A configuration setting within its range has every unused bit 0. -/
theorem get_config_bounds (inRange : t.InRange) (first : 30 ≤ n) (last : n ≤ 38) :
    0 ≤ t.get n ∧ t.get n < configMask n := by
  obtain ⟨-, config⟩ := inRange n ((settingKnown_iff n).mpr ⟨by omega, last⟩)
  exact (configOk_iff n _).mp (config (decide_eq_true first))

end

/-- Settles O46: a GET has three cases, the discarded frame of INIT apart; the table's fields hold what is stored. -/
theorem getReadsTheStoredValue : Obligations.GetReadsTheStoredValue := by
  refine ⟨fun s tag words idle fits => ⟨?_, ?_⟩, fun t n inRange => ⟨fun first last => ?_, fun first last => ?_⟩,
    fun t n z first last ok => get_put_storedValue t first last z ok, fun s tag words running init _ => ?_⟩
  · rintro (count | ⟨id, rfl, outside⟩)
    · exact exec_get_of_taken idle fits (takeGet_of_wrong_count count)
    · have unknown : settingKnown id.toNat = false := by
        rw [Bool.eq_false_iff, Ne, settingKnown_iff]
        omega
      exact exec_get_of_taken idle fits (takeGet_of_unknown rfl unknown)
  · rintro id rfl first last
    exact exec_get_of_taken idle fits (takeGet_of_known rfl ((settingKnown_iff _).mpr ⟨first, last⟩))
  · simpa [configMask_of_attn first last] using get_config_bounds t inRange first (by omega)
  · simpa [configMask_of_lamp first] using get_config_bounds t inRange (by omega) last
  · have discarded : s.request .cell .get tag words = (s.framed .cell ⟨Command.get.code, tag, words⟩).discard .cell :=
      arrive_of_init running init Command.get.code_ne_zero
    exact congrArg _ (discarded.trans (framed_discard ..))

end Sys2Proof.Machine
end

section
/-! THEOREMS. The queue of commands, and what every command writes: a step runs the front command (O1), every command
completes and only the reset commands and the clock write line time and the causes of reset (O2); the state after a
power-on reset (O3, O4). -/

namespace Sys2Proof.Machine

open Sys2Proof

/-! ## Request rows -/

/-- A request row is the arrival of its whole frame (R174). -/
theorem exec_of_requestOf {i : Instr} {p : Port} {r : Request} (row : i.requestOf = some (p, r)) (s : State) :
    exec i s = .next (s.arrive p r) := by
  cases i <;> cases row <;> rfl

/-- Settles O1. -/
theorem stepRunsTheFrontCommand : Obligations.StepRunsTheFrontCommand := by
  refine ⟨fun c rest s => rfl, fun s none => ?_⟩
  simp only [step, none]

/-! ## What a command leaves alone -/

/-- The rows that are neither a reset command nor the clock leave the command queue, the causes of reset and the line time
as they are. -/
theorem exec_sameClock {c : Instr} (power : c ≠ .powerOnReset) (pin : c ≠ .pinReset) (clock : c ≠ .lineTimeStep)
    (release : ∀ k, c ≠ .resetRelease k) (s : State) : ∃ t, exec c s = .next t ∧ s.SameClock t := by
  cases row : c.requestOf with
  | some x => exact ⟨_, exec_of_requestOf row s, arrive_clock ..⟩
  | none =>
    cases c with
    | powerOnReset => exact absurd rfl power
    | pinReset => exact absurd rfl pin
    | lineTimeStep => exact absurd rfl clock
    | resetRelease k => exact absurd rfl (release k)
    | initComplete => exact ⟨_, rfl, completeInit_clock s⟩
    | captureEdge i e => exact ⟨_, rfl, pinEvent_clock ..⟩
    | captureAgeLimit i => exact ⟨_, rfl, takeExpiry_clock ..⟩
    | presentationTimerExpiry => exact ⟨_, rfl, takeExpiry_clock ..⟩
    | grantTimerExpiry h => exact ⟨_, rfl, takeExpiry_clock ..⟩
    | placeHoldExpiry h => exact ⟨_, rfl, takeExpiry_clock ..⟩
    | dispenseHoldExpiry => exact ⟨_, rfl, takeExpiry_clock ..⟩
    | potLifeExpiry strip column row => exact ⟨_, rfl, takeExpiry_clock ..⟩
    | heldRequestWaitExpiry p => exact ⟨_, rfl, takeExpiry_clock ..⟩
    | requestFrame p e =>
      cases e with
      | selected => exact ⟨_, rfl, setLink_clock ..⟩
      | begins => exact ⟨_, rfl, beginFrame_clock ..⟩
      | ends bytes extra => exact ⟨_, rfl, endFrame_clock ..⟩
    | fetch p e =>
      cases e with
      | selected => exact ⟨_, rfl, setLink_clock ..⟩
      | begins => exact ⟨_, rfl, beginFrame_clock ..⟩
      | firstByte => exact ⟨_, rfl, fixReply_clock ..⟩
      | ends n => exact ⟨_, rfl, endFetchFrame_clock ..⟩
    | portAbortEntry p => exact ⟨_, rfl, takeHaltEntry_clock ..⟩
    | leavingRunReport d => exact ⟨_, rfl, takeReport_clock ..⟩
    | _ => cases row

theorem release_pending (s : State) (k : ResetKind) : (s.release k).pending = s.pending := by
  unfold State.release
  cases k <;> simp only <;> split <;> rfl

theorem release_lineTime (s : State) (k : ResetKind) : (s.release k).lineTime = s.lineTime := by
  unfold State.release
  cases k <;> simp only <;> split <;> rfl

/-- The step of line time leaves the command queue and the causes of reset alone. -/
theorem lineTimeStep_keeps (s : State) : s.lineTimeStep.pending = s.pending
    ∧ s.lineTimeStep.supplyLow = s.supplyLow ∧ s.lineTimeStep.resetLow = s.resetLow := by
  unfold State.lineTimeStep
  split
  · exact ⟨rfl, rfl, rfl⟩
  · have same := (takeDue_clock s).trans (endInit_clock s.takeDue)
    exact ⟨same.pending, same.supplyLow, same.resetLow⟩

/-- Settles O2: the four rows that write a cause of reset or the line time, and the rest by `exec_sameClock`. -/
theorem everyCommandCompletesAndNoRequestWritesLineTime :
    Obligations.EveryCommandCompletesAndNoRequestWritesLineTime := by
  intro c s
  by_cases power : c = .powerOnReset
  · subst power
    exact ⟨_, rfl, rfl, fun h => absurd rfl h, fun h => absurd rfl h⟩
  by_cases pin : c = .pinReset
  · subst pin
    exact ⟨_, rfl, rfl, fun _ h => absurd rfl h, fun _ h => absurd rfl h⟩
  by_cases clock : c = .lineTimeStep
  · subst clock
    obtain ⟨pending, causes⟩ := lineTimeStep_keeps s
    exact ⟨_, rfl, pending, fun _ _ h => absurd rfl h, fun _ _ _ => causes⟩
  by_cases release : ∃ k, c = .resetRelease k
  · obtain ⟨k, rfl⟩ := release
    exact ⟨_, rfl, release_pending s k, fun _ _ _ => release_lineTime s k, fun _ _ h => absurd rfl (h k)⟩
  · obtain ⟨t, next, same⟩ := exec_sameClock power pin clock (fun k e => release ⟨k, e⟩) s
    exact ⟨t, next, same.pending, fun _ _ _ => same.lineTime, fun _ _ _ => ⟨same.supplyLow, same.resetLow⟩⟩

/-! ## The state after a power-on reset -/

/-- Settles O3: every block's reset table, read off `State.reset`. -/
theorem resetStateHoldsTheResetValues : Obligations.ResetStateHoldsTheResetValues := by
  refine ⟨rfl, rfl, rfl, rfl, rfl, rfl, rfl, rfl, fun d => ?_, rfl, rfl, rfl, rfl, rfl, rfl, rfl, fun h => ?_, rfl, rfl, rfl,
    fun h => ?_, fun i => ?_, rfl, rfl, rfl, rfl, rfl, rfl, rfl, fun h => ?_, fun i => ?_, rfl, rfl, rfl, rfl, fun p => ?_,
    rfl, ?_⟩
  · cases d <;> rfl
  · cases h <;> rfl
  · cases h <;> rfl
  · simp [State.reset, Track.reset]
  · cases h <;> exact ⟨rfl, rfl⟩
  · cases i <;> exact ⟨rfl, rfl, rfl⟩
  · cases p <;> exact ⟨rfl, rfl, rfl, rfl, rfl, rfl, rfl, rfl, rfl, rfl, by decide⟩
  · decide

theorem default_inRange : Settings.default.InRange := by
  have checked : ∀ id < 39, settingKnown id = true → storedValue id (Settings.default.get id) = Settings.default.get id
      ∧ (isConfig id = true → configOk id (Settings.default.get id) = true) := by decide
  intro id known
  obtain ⟨-, last⟩ := (settingKnown_iff id).mp known
  exact checked id (by omega) known

theorem reset_link (p : Port) : State.reset.link p = Link.reset := by cases p <;> rfl

/-- Settles O4: after a reset the queues, lists and counts are empty and no map is loaded; the settings are the defaults. -/
theorem resetStateKeepsEveryLaw : Obligations.ResetStateKeepsEveryLaw := by
  refine ⟨fun p => ?_, fun p h held => ?_, ready_eq_nil_of_empty fun p => ?_, Nat.zero_le _,
    ⟨Nat.zero_le _, nofun⟩, fun _ => ⟨rfl, fun p => ?_⟩, fun loaded => absurd rfl loaded, default_inRange, by decide,
    by decide⟩
  · rw [reset_link]
    exact ⟨by decide, by decide⟩
  · rw [reset_link] at held
    cases held
  all_goals
    rw [reset_link]
    rfl

end Sys2Proof.Machine
end

section
/-! THEOREMS. The laws of the link units over a step: no queue is overfilled and no illegal request is held (O5), and no port
is left that could take a request (O6). An event changes the link units by answers and flushes (`Follows`), by a reply
to an immediate request (`Replied`), or by the changes of a frame, and then settles. -/

namespace Sys2Proof.Machine

open Sys2Proof

/-! ## An immediate request, taken while a request may be held -/

/-- An immediate request of port `p` has been answered: what its reply queue owes has risen by one, and the request that it
may hold is kept or answered (R183, R184). -/
structure State.Replied (s : State) (p : Port) (t : State) : Prop where
  others : ∀ q, q ≠ p → (s.link q).Follows (t.link q)
  requests : (t.link p).requests = (s.link p).requests ∨ (t.link p).requests = []
  owed : (t.link p).owed = (s.link p).owed + 1
  held : (t.link p).held = (s.link p).held ∨ (t.link p).held = none
  causes : (t.link p).held = none ∨ (t.link p).causes = (s.link p).causes

/-- What a port may go through, followed by one reply on it. -/
theorem State.Follows.replied {s u : State} (k : s.Follows u) (p : Port) (tag : Byte) (code : ReplyCode)
    (ws : List Word) : s.Replied p (u.reply p tag code ws) where
  others q hq := by rw [reply_link_ne _ _ _ _ hq]; exact k.link q
  requests := by rw [reply_link]; exact (k.link p).requests
  owed := by
    have := (k.link p).owed
    rw [reply_link]
    simp only [Link.owed, List.length_append, List.length_singleton] at *
    omega
  held := by rw [reply_link]; exact (k.link p).held
  causes := by rw [reply_link]; exact (k.link p).causes

theorem acceptCancel_replied {s t : State} (k : s.Follows t) (p : Port) (r : Request) :
    s.Replied p (t.acceptCancel p r) :=
  State.Follows.replied (k.trans (answerHeld_follows ..)) ..

theorem cancelHeld_replied {s t : State} (k : s.Follows t) (p : Port) (r held : Request) :
    s.Replied p (t.cancelHeld p r held) := by
  unfold State.cancelHeld
  split
  · exact acceptCancel_replied k ..
  · split
    · split
      · exact acceptCancel_replied (k.trans (.of_links (by simp))) ..
      · exact k.replied ..
    · split
      · exact acceptCancel_replied (k.trans (.of_links (by simp))) ..
      · exact acceptCancel_replied k ..

theorem takeCancel_replied {s t : State} (k : s.Follows t) (p : Port) (r : Request) :
    s.Replied p (takeCancel p r t) := by
  unfold takeCancel
  split
  · exact k.replied ..
  · split
    · exact k.replied ..
    · exact cancelHeld_replied k ..

theorem takePortStatus_replied {s t : State} (k : s.Follows t) (p : Port) (r : Request) :
    s.Replied p (takePortStatus p r t) := by
  unfold takePortStatus
  split <;> exact k.replied ..

/-- The commands of the immediate codes (R183). -/
theorem immediate_command {p : Port} {b : Byte} {c : Command} (imm : p.isImmediate b = true) (role : p.command b = some c) :
    c = .cancel ∨ c = .portStatus ∨ c = .reset := by
  have code := code_of_command role
  subst code
  cases c with
  | cancel => exact .inl rfl
  | portStatus => exact .inr (.inl rfl)
  | reset => exact .inr (.inr rfl)
  | _ => exact absurd imm (by cases p <;> decide)

/-- An immediate request taken adds one reply to what its port owes (R183). -/
theorem takeNow_replied (s : State) {p : Port} {r : Request} (imm : p.isImmediate r.code = true) :
    s.Replied p (takeNow p r s) := by
  have fresh := clearFresh_follows s p
  unfold takeNow
  simp only
  split
  · exact fresh.replied ..
  · next c role =>
    obtain rfl | rfl | rfl := immediate_command imm role
    · exact takeCancel_replied fresh ..
    · exact takePortStatus_replied fresh ..
    · exact fresh.replied ..

theorem State.LinksSound.replied {s t : State} {p : Port} (h : s.LinksSound) (k : s.Replied p t)
    (room : (s.link p).owed < Config.replyCapacity) : t.LinksSound where
  bounded q := by
    by_cases hq : q = p
    · subst hq
      refine ⟨?_, by rw [k.owed]; exact room⟩
      rcases k.requests with e | e <;> rw [e]
      · exact (h.bounded q).1
      · exact Nat.zero_le _
    · refine ⟨?_, by rw [(k.others q hq).owed]; exact (h.bounded q).2⟩
      rcases (k.others q hq).requests with e | e <;> rw [e]
      · exact (h.bounded q).1
      · exact Nat.zero_le _
  legal q x hx := by
    have f : ((t.link q).held = (s.link q).held ∨ (t.link q).held = none)
        ∧ ((t.link q).held = none ∨ (t.link q).causes = (s.link q).causes) := by
      by_cases hq : q = p
      · subst hq; exact ⟨k.held, k.causes⟩
      · exact ⟨(k.others q hq).held, (k.others q hq).causes⟩
    obtain ⟨held | held, none | causes⟩ := f
    · rw [none] at hx; cases hx
    · rw [causes]; exact h.legal q x (held ▸ hx)
    · rw [held] at hx; cases hx
    · rw [held] at hx; cases hx

/-! ## Changes of a link unit that no law sees -/

/-- Two link units have the same queues, the same held request and the same causes. -/
structure Link.SameQueues (l m : Link) : Prop where
  requests : m.requests = l.requests
  replies : m.replies = l.replies
  held : m.held = l.held
  causes : m.causes = l.causes

theorem Link.SameQueues.follows {l m : Link} (h : l.SameQueues m) : l.Follows m :=
  ⟨.inl h.requests, by rw [Link.owed, h.replies, h.held]; rfl, .inl h.held, .inr h.causes⟩

/-- The laws that O5 and O6 state of a step from `s` to `t`. -/
structure State.KeepsLinks (s t : State) : Prop where
  sound : s.LinksSound → t.LinksSound
  settled : s.LinksSound → s.Settled → t.Settled

theorem State.KeepsLinks.refl (s : State) : s.KeepsLinks s := ⟨id, fun _ => id⟩

theorem State.KeepsLinks.trans {s t u : State} (h : s.KeepsLinks t) (k : t.KeepsLinks u) : s.KeepsLinks u :=
  ⟨fun a => k.sound (h.sound a), fun a b => k.settled (h.sound a) (h.settled a b)⟩

theorem State.KeepsLinks.of_links {s t : State} (h : t.links = s.links) : s.KeepsLinks t := by
  have same : t.link = s.link := by funext p; rw [link_eq, link_eq, h]
  refine ⟨fun a => a.follows (.of_links h), fun _ settled => ?_⟩
  unfold State.Settled State.ready at *
  rw [same]
  exact settled

theorem State.KeepsLinks.of_setLink {s : State} {p : Port} {l : Link} (h : (s.link p).SameQueues l) :
    s.KeepsLinks (s.setLink p l) := by
  refine ⟨fun a => a.follows (.of_setLink h.follows), fun _ settled => ?_⟩
  have same : ∀ q, ((s.setLink p l).link q).canTake = (s.link q).canTake := by
    intro q
    by_cases hq : q = p
    · subst hq
      rw [setLink_link, Link.canTake, Link.canTake, h.requests, h.held, h.replies]
    · rw [setLink_link_ne _ _ hq]
  unfold State.Settled State.ready at *
  simp only [same]
  exact settled

/-- An event whose last part is the taking of what can be taken. -/
theorem State.KeepsLinks.of_settle {s t : State} (h : s.LinksSound → t.LinksSound) : s.KeepsLinks t.settle :=
  ⟨fun a => (settle_sound (h a)).1, fun a _ => (settle_sound (h a)).2⟩

theorem State.KeepsLinks.settle_follows {s t : State} (h : s.AbortFree → s.Follows t) : s.KeepsLinks t.settle :=
  .of_settle fun a => a.follows (h (HeldLegal_abortFree a.legal))

/-! ## Frames -/

theorem discard_keepsLinks (s : State) (p : Port) : s.KeepsLinks (s.discard p) := .of_setLink ⟨rfl, rfl, rfl, rfl⟩

theorem beginFrame_keepsLinks (s : State) (p : Port) : s.KeepsLinks (s.beginFrame p) := by
  unfold State.beginFrame
  split <;> exact .of_setLink ⟨rfl, rfl, rfl, rfl⟩

theorem fixReply_keepsLinks (s : State) (p : Port) : s.KeepsLinks (s.fixReply p) := by
  unfold State.fixReply
  split
  · exact .refl s
  · exact .of_setLink ⟨rfl, rfl, rfl, rfl⟩

/-- A link unit whose queues are empty and that is neither held nor aborted. -/
theorem linksSound_of_blank {t : State} (blank : ∀ p, (t.link p).requests = [] ∧ (t.link p).replies = []
    ∧ (t.link p).held = none) : t.LinksSound ∧ t.Settled := by
  refine ⟨⟨fun p => ?_, fun p h held => ?_⟩, ready_eq_nil_of_empty fun p => (blank p).1⟩
  · obtain ⟨requests, replies, held⟩ := blank p
    simp [Link.Bounded, Link.owed, requests, replies, held, bit]
  · rw [(blank p).2.2] at held
    cases held

theorem State.KeepsLinks.of_blank {s t : State} (blank : ∀ p, (t.link p).requests = [] ∧ (t.link p).replies = []
    ∧ (t.link p).held = none) : s.KeepsLinks t :=
  ⟨fun _ => (linksSound_of_blank blank).1, fun _ _ => (linksSound_of_blank blank).2⟩

theorem softReset_keepsLinks (s : State) : s.KeepsLinks s.softReset := by
  refine .of_blank fun p => ?_
  simp [link_eq, State.softReset, Link.softReset, Link.reset]

theorem heldInReset_keepsLinks (s : State) (supply pin : Bool) : s.KeepsLinks (s.heldInReset supply pin) := by
  refine .of_blank fun p => ?_
  simp [link_eq, State.heldInReset, Link.reset]

theorem owed_lt_of_hasRoom {l : Link} (h : l.hasRoom = true) : l.owed < Config.replyCapacity := by
  unfold Link.hasRoom at h
  show l.replies.length + bit l.held.isSome < 8
  cases held : l.held.isSome <;> simp [held, bit] at h ⊢ <;> omega

/-- A request that arrives resets, is taken at once, joins the queue, or is discarded (R174, R179, R183). -/
theorem receive_keepsLinks (s : State) (p : Port) (r : Request) : s.KeepsLinks (s.receive p r) := by
  unfold State.receive
  split
  · exact softReset_keepsLinks s
  · split
    · next imm =>
      split
      · next room => exact .of_settle fun a => a.replied (takeNow_replied s imm) (owed_lt_of_hasRoom room)
      · exact discard_keepsLinks s p
    · split
      · next room =>
        refine .of_settle fun a => ⟨fun q => ?_, fun q x hx => ?_⟩
        · by_cases hq : q = p
          · subst hq
            rw [setLink_link]
            exact ⟨by simpa using room, (a.bounded q).2⟩
          · rw [setLink_link_ne _ _ hq]; exact a.bounded q
        · by_cases hq : q = p
          · subst hq; rw [setLink_link] at hx ⊢; exact a.legal q x hx
          · rw [setLink_link_ne _ _ hq] at hx ⊢; exact a.legal q x hx
      · exact discard_keepsLinks s p

theorem endFrame_sameQueues (l : Link) (f : OpenFrame) (out : List Byte) : l.SameQueues (l.endFrame f out) :=
  ⟨rfl, rfl, rfl, rfl⟩

theorem endRequest_keepsLinks (s : State) (p : Port) (bytes : List Byte) (extra : Nat) :
    s.KeepsLinks (s.endRequest p bytes extra) := by
  unfold State.endRequest
  simp only
  split
  · exact .trans (.of_setLink (endFrame_sameQueues ..)) (discard_keepsLinks ..)
  · split
    · exact .trans (.of_setLink (endFrame_sameQueues ..)) (discard_keepsLinks ..)
    · exact .trans (.of_setLink (endFrame_sameQueues ..)) (receive_keepsLinks ..)

/-- A fetch takes at most one reply away. -/
theorem fetched_replies (l : Link) (f : OpenFrame) (n : Nat) :
    l.fetched f n = l ∨ l.fetched f n = { l with replies := l.replies.tail } := by
  unfold Link.fetched
  split
  · exact .inl rfl
  · split
    · exact .inr rfl
    · exact .inl rfl

theorem endFetch_keepsLinks (s : State) (p : Port) (n : Nat) : s.KeepsLinks (s.endFetch p n) := by
  unfold State.endFetch
  simp only
  split
  · exact .trans (.of_setLink (endFrame_sameQueues ..)) (discard_keepsLinks ..)
  · refine .of_settle fun a => ?_
    generalize he : (s.link p).endFrame (s.endingFrame p) (fetchBytes (s.endingFrame p) n) = l
    have same : (s.link p).SameQueues l := he ▸ endFrame_sameQueues ..
    have k := a.follows (.of_setLink same.follows)
    rcases fetched_replies l (s.endingFrame p) n with e | e <;> rw [e]
    · exact k
    · refine ⟨fun q => ?_, fun q x hx => ?_⟩
      · by_cases hq : q = p
        · subst hq
          have bounded := k.bounded q
          rw [setLink_link] at bounded ⊢
          refine ⟨bounded.1, Nat.le_trans ?_ bounded.2⟩
          simp [Link.owed]
        · rw [setLink_link_ne _ _ hq]; exact a.bounded q
      · by_cases hq : q = p
        · subst hq
          have legal := k.legal q x
          rw [setLink_link] at legal hx ⊢
          exact legal hx
        · rw [setLink_link_ne _ _ hq] at hx ⊢; exact a.legal q x hx

theorem endFrame_keepsLinks (s : State) (p : Port) (bytes : List Byte) (extra : Nat) :
    s.KeepsLinks (s.endFrame p bytes extra) := by
  unfold State.endFrame
  split
  · exact .of_setLink ⟨rfl, rfl, rfl, rfl⟩
  · split
    · exact .of_setLink ⟨rfl, rfl, rfl, rfl⟩
    · split
      · exact endFetch_keepsLinks ..
      · exact endRequest_keepsLinks ..

theorem endFetchFrame_keepsLinks (s : State) (p : Port) (n : Nat) : s.KeepsLinks (s.endFetchFrame p n) := by
  unfold State.endFetchFrame
  split
  · exact .of_setLink ⟨rfl, rfl, rfl, rfl⟩
  · exact endFetch_keepsLinks ..

/-! ## Expiries, entries into abort and reports -/

theorem expire_follows {s : State} (k : s.AbortFree) (t : Timer) : s.Follows (s.expire t) := by
  have reaches : ∀ {u : State} (_ : u.links = s.links) (p : Port) (c : AbortCause) (b : Bool),
      s.Follows (u.causeReaches p c b) := fun {u} e p c b =>
    have f : s.Follows u := .of_links e
    f.trans (causeReaches_follows ((f.abortFree k).held p) c b)
  cases t <;> simp only [State.expire]
  case presentation => exact reaches (by simp) ..
  case grant h => exact reaches (by simp) ..
  case placeHold h =>
    unfold State.expirePlaceHold
    split
    · exact .of_links (by simp)
    · split
      · exact reaches (by simp) ..
      · exact .of_links (by simp)
  case dispenseHold => exact reaches (by simp) ..
  case potLife strip column row =>
    unfold State.expirePotLife
    split
    · exact .trans (.of_links (by simp)) (serveNextSite_follows _)
    · exact .of_links (by simp)
    · exact .refl s
  case wait p =>
    unfold State.expireWait
    split
    · exact answerHeld_follows ..
    · split
      · exact .trans (.of_links (by simp)) (answerHeld_follows ..)
      · exact answerHeld_follows ..
  case age i => exact .of_links rfl

theorem takeExpiry_keepsLinks (s : State) (t : Timer) : s.KeepsLinks (s.takeExpiry t) := by
  unfold State.takeExpiry
  split
  · exact .settle_follows fun k => expire_follows k t
  · exact .refl s

theorem chooseAmong_links {α : Type} (s : State) (xs : List α) : (s.chooseAmong xs).links = s.links := by
  unfold State.chooseAmong
  split <;> rfl

theorem takeDueFor_keepsLinks (n : Nat) (s : State) : s.KeepsLinks (takeDueFor n s) := by
  induction n generalizing s with
  | zero => exact .refl s
  | succ n ih =>
    unfold takeDueFor
    split
    · exact .refl s
    · exact .trans (.of_links (chooseAmong_links ..)) (.trans (.settle_follows fun k => expire_follows k _) (ih _))

theorem completeInit_links (s : State) : s.completeInit.links = s.links := by
  unfold State.completeInit
  split <;> rfl

theorem endInit_links (s : State) : s.endInit.links = s.links := by
  unfold State.endInit
  split
  · exact completeInit_links s
  · rfl

theorem lineTimeStep_keepsLinks (s : State) : s.KeepsLinks s.lineTimeStep := by
  unfold State.lineTimeStep
  split
  · exact .refl s
  · exact .trans (takeDueFor_keepsLinks ..) (.of_links (endInit_links _))

theorem takeHaltEntry_keepsLinks (s : State) (p : Port) : s.KeepsLinks (s.takeHaltEntry p) := by
  unfold State.takeHaltEntry
  split
  · exact .refl s
  · next n _ =>
    refine .settle_follows fun k => ?_
    have f : s.Follows (s.setLink p { s.link p with haltEntries := n }) :=
      .of_setLink (Link.SameQueues.follows ⟨rfl, rfl, rfl, rfl⟩)
    exact f.trans (causeReaches_follows ((f.abortFree k).held p) ..)

theorem answerMode_follows (s : State) (p : Port) (c : Command) : s.Follows (s.answerMode p c) := by
  unfold State.answerMode
  split
  · exact answerHeld_follows ..
  · exact .refl s

theorem takeReport_keepsLinks (s : State) (d : ReportTo) : s.KeepsLinks (s.takeReport d) := by
  cases d
  · show s.KeepsLinks s.reportClaimUnit
    unfold State.reportClaimUnit
    split
    · exact .refl s
    · next n _ =>
      have f : s.Follows { s with reports := { s.reports with claimUnit := n } } := .of_links rfl
      exact .settle_follows fun _ => (f.trans (answerMode_follows ..)).trans (answerMode_follows ..)
  · show s.KeepsLinks s.reportDispenser
    unfold State.reportDispenser
    split
    · exact .refl s
    · next n _ =>
      have f : s.Follows { s with reports := { s.reports with dispenseSequencer := n } } := .of_links rfl
      exact .settle_follows fun _ => f.trans (answerMode_follows ..)

theorem release_links (s : State) (k : ResetKind) : (s.release k).links = s.links := by
  unfold State.release
  cases k <;> simp only <;> split <;> rfl

/-! ## A step -/

/-- Every command keeps the laws of the link units. -/
theorem exec_keepsLinks {c : Instr} {s t : State} (h : exec c s = .next t) : s.KeepsLinks t := by
  cases row : c.requestOf with
  | some x =>
    rw [exec_of_requestOf row] at h
    cases h
    exact .trans (beginFrame_keepsLinks ..) (endFrame_keepsLinks ..)
  | none =>
    cases c with
    | powerOnReset => cases h; exact heldInReset_keepsLinks ..
    | pinReset => cases h; exact heldInReset_keepsLinks ..
    | resetRelease k => cases h; exact .of_links (release_links s k)
    | initComplete => cases h; exact .of_links (completeInit_links s)
    | lineTimeStep => cases h; exact lineTimeStep_keepsLinks s
    | captureEdge i e => cases h; exact .of_links rfl
    | captureAgeLimit i => cases h; exact takeExpiry_keepsLinks ..
    | presentationTimerExpiry => cases h; exact takeExpiry_keepsLinks ..
    | grantTimerExpiry => cases h; exact takeExpiry_keepsLinks ..
    | placeHoldExpiry => cases h; exact takeExpiry_keepsLinks ..
    | dispenseHoldExpiry => cases h; exact takeExpiry_keepsLinks ..
    | potLifeExpiry => cases h; exact takeExpiry_keepsLinks ..
    | heldRequestWaitExpiry => cases h; exact takeExpiry_keepsLinks ..
    | requestFrame p e =>
      cases e with
      | selected => cases h; exact .of_setLink ⟨rfl, rfl, rfl, rfl⟩
      | begins => cases h; exact beginFrame_keepsLinks ..
      | ends => cases h; exact endFrame_keepsLinks ..
    | fetch p e =>
      cases e with
      | selected => cases h; exact .of_setLink ⟨rfl, rfl, rfl, rfl⟩
      | begins => cases h; exact beginFrame_keepsLinks ..
      | firstByte => cases h; exact fixReply_keepsLinks ..
      | ends => cases h; exact endFetchFrame_keepsLinks ..
    | portAbortEntry p => cases h; exact takeHaltEntry_keepsLinks ..
    | leavingRunReport d => cases h; exact takeReport_keepsLinks ..
    | _ => cases row

/-- What holds of an empty queue and of every command holds of every step. -/
theorem step_induction {R : State → State → Prop} (idle : ∀ s, R s s)
    (command : ∀ c rest s t, exec c (s.withPending rest) = .next t → R s t) {s t : State} (h : step s = .next t) :
    R s t := by
  unfold step at h
  split at h
  · cases h; exact idle s
  · next c rest _ => exact command c rest s t h

theorem step_keepsLinks {s t : State} (h : step s = .next t) : s.KeepsLinks t :=
  step_induction (R := State.KeepsLinks) .refl
    (fun _ _ s _ h => .trans (.of_links (withPending_links s _)) (exec_keepsLinks h)) h

/-- Settles O5: every part of an event keeps the queues bounded and the held requests legal. -/
theorem stepKeepsPortQueuesBounded : Obligations.StepKeepsPortQueuesBounded := by
  intro s t bounded legal next
  obtain ⟨bounded', legal'⟩ := (step_keepsLinks next).sound ⟨bounded, legal⟩
  exact ⟨bounded', legal'⟩

/-- Settles O6: an event that frees a port to take a request ends by settling. -/
theorem stepLeavesNoRequestThatCouldBeTaken : Obligations.StepLeavesNoRequestThatCouldBeTaken :=
  fun _ _ bounded legal settled next => (step_keepsLinks next).settled ⟨bounded, legal⟩ settled

end Sys2Proof.Machine
end

section
/-! SUPPORT. The laws of the report unit, the claim lists, the die map, the settings and the drift, over the blocks' shared
operations. `KeepsLaws` says of a change of state that it keeps each of those laws; an operation that writes none of their
fields keeps them all (`same`), and each operation that writes one has one lemma, in the order of the model. -/

namespace Sys2Proof.Machine

open Sys2Proof

/-- What a change of state keeps (O7 to O10): the room in the log, the bound of the notice queue, the counts of the die
table, the ranges of the settings and of the drift; and a part that has left INIT does not go back. -/
structure State.KeepsLaws (s t : State) : Prop where
  started : s.mode ≠ .init → t.mode ≠ .init
  logRoom : s.LogRoom → t.LogRoom
  notices : s.NoticesBounded → t.NoticesBounded
  counted : s.MapCounted → t.MapCounted
  inRange : s.settings.InRange → t.settings.InRange
  drift : s.DriftBounded → t.DriftBounded

/-- The fields that those laws read are the same in both states. -/
def State.SameBooks (s t : State) : Prop :=
  t.mode = s.mode ∧ t.settings = s.settings ∧ t.map = s.map ∧ t.drift = s.drift ∧ t.claims = s.claims
    ∧ t.report = s.report

theorem State.KeepsLaws.refl (s : State) : s.KeepsLaws s := ⟨id, id, id, id, id, id⟩

theorem State.KeepsLaws.trans {s t u : State} (h : s.KeepsLaws t) (k : t.KeepsLaws u) : s.KeepsLaws u :=
  ⟨k.started ∘ h.started, k.logRoom ∘ h.logRoom, k.notices ∘ h.notices, k.counted ∘ h.counted, k.inRange ∘ h.inRange,
    k.drift ∘ h.drift⟩

theorem State.LogRoom.of_le {s t : State} (h : s.LogRoom) (le : t.logSum ≤ s.logSum) : t.LogRoom := Nat.le_trans le h

/-- The notice law reads the number of notices and of those dropped. -/
theorem State.NoticesBounded.of_eq {s t : State} (h : s.NoticesBounded) (notices : t.report.notices = s.report.notices)
    (dropped : t.report.dropped = s.report.dropped) : t.NoticesBounded := by
  unfold State.NoticesBounded
  rw [notices, dropped]
  exact h

theorem readyWafer_congr {s t : State} (h : t.map.phase = s.map.phase) : t.readyWafer = s.readyWafer := by
  unfold State.readyWafer
  rw [h]

theorem countEligible_congr {s t : State} (table : t.map.table = s.map.table)
    (bins : t.settings.binSet = s.settings.binSet) : t.countEligible = s.countEligible := by
  unfold State.countEligible
  rw [table]
  congr 1
  funext d
  simp only [State.dieEligible, State.binSelected, bins]

/-- The map law reads the phase, the next index, the table, the nine counts, the eligible count and BIN-SET. -/
theorem State.MapCounted.of_eq {s t : State} (h : s.MapCounted) (phase : t.map.phase = s.map.phase)
    (next : t.map.nextIndex = s.map.nextIndex) (table : t.map.table = s.map.table) (counts : t.map.counts = s.map.counts)
    (eligible : t.map.eligible = s.map.eligible) (bins : t.settings.binSet = s.settings.binSet) : t.MapCounted := by
  intro loaded
  rw [next, table, counts, eligible, readyWafer_congr phase, countEligible_congr table bins]
  simpa only [DieMap.inState, table] using h (phase ▸ loaded)

/-- An operation that writes the map, the claim lists and the report unit alone. -/
theorem State.KeepsLaws.of_blocks {s t : State} (mode : t.mode = s.mode) (settings : t.settings = s.settings)
    (drift : t.drift = s.drift) (logRoom : s.LogRoom → t.LogRoom) (notices : s.NoticesBounded → t.NoticesBounded)
    (counted : s.MapCounted → t.MapCounted) : s.KeepsLaws t where
  started := by rw [mode]; exact id
  logRoom := logRoom
  notices := notices
  counted := counted
  inRange := by rw [settings]; exact id
  drift := by unfold State.DriftBounded; rw [settings, drift]; exact id

theorem State.SameBooks.keepsLaws {s t : State} (h : s.SameBooks t) : s.KeepsLaws t := by
  obtain ⟨mode, settings, map, drift, claims, report⟩ := h
  refine .of_blocks mode settings drift (fun k => k.of_le ?_) (fun k => k.of_eq ?_ ?_) (fun k => ?_)
  · rw [State.logSum, State.logSum, report, claims]
  · rw [report]
  · rw [report]
  · refine k.of_eq ?_ ?_ ?_ ?_ ?_ ?_ <;> simp only [map, settings]

section

variable {s t : State}

theorem State.KeepsLaws.same {u : State} (h : s.KeepsLaws t) (e : t.SameBooks u) : s.KeepsLaws u := h.trans e.keepsLaws

/-! ## Operations that write none of the laws' fields -/

theorem State.KeepsLaws.setLink (h : s.KeepsLaws t) {p : Port} {l : Link} : s.KeepsLaws (t.setLink p l) :=
  h.same ⟨rfl, rfl, rfl, rfl, rfl, rfl⟩

theorem State.KeepsLaws.reply (h : s.KeepsLaws t) {p : Port} {tag : Byte} {code : ReplyCode} {ws : List Word} :
    s.KeepsLaws (t.reply p tag code ws) := h.setLink

theorem State.KeepsLaws.hold (h : s.KeepsLaws t) {p : Port} {r : Request} {e : Option Time} :
    s.KeepsLaws (t.hold p r e) := h.setLink

theorem State.KeepsLaws.answerHeld (h : s.KeepsLaws t) {p : Port} {code : ReplyCode} {ws : List Word} :
    s.KeepsLaws (t.answerHeld p code ws) := h.same (by simp [State.SameBooks])

theorem State.KeepsLaws.setArbiter (h : s.KeepsLaws t) {a : Arbiter} : s.KeepsLaws (t.setArbiter a) :=
  h.same ⟨rfl, rfl, rfl, rfl, rfl, rfl⟩

theorem State.KeepsLaws.setTrack (h : s.KeepsLaws t) {a : Track} : s.KeepsLaws (t.setTrack a) :=
  h.same ⟨rfl, rfl, rfl, rfl, rfl, rfl⟩

theorem State.KeepsLaws.setPlacement (h : s.KeepsLaws t) {a : Placement} : s.KeepsLaws (t.setPlacement a) :=
  h.same ⟨rfl, rfl, rfl, rfl, rfl, rfl⟩

theorem State.KeepsLaws.setCapture (h : s.KeepsLaws t) {i : CaptureInput} {c : CaptureLine} :
    s.KeepsLaws (t.setCapture i c) := h.same ⟨rfl, rfl, rfl, rfl, rfl, rfl⟩

theorem State.KeepsLaws.freeStation (h : s.KeepsLaws t) {x : Head} : s.KeepsLaws (t.freeStation x) := h.setArbiter

theorem State.KeepsLaws.deliver (h : s.KeepsLaws t) : s.KeepsLaws t.deliver := h.same (by simp [State.SameBooks])

theorem State.KeepsLaws.removeWaiter (h : s.KeepsLaws t) {x : Head} : s.KeepsLaws (t.removeWaiter x) := h.setArbiter

theorem State.KeepsLaws.setColumn (h : s.KeepsLaws t) {p : Nat} {c : Option Column} : s.KeepsLaws (t.setColumn p c) :=
  h.setTrack

theorem State.KeepsLaws.setSite (h : s.KeepsLaws t) {p row : Nat} {x : Site} : s.KeepsLaws (t.setSite p row x) :=
  h.same (by simp [State.SameBooks])

theorem State.KeepsLaws.dropWet (h : s.KeepsLaws t) : s.KeepsLaws t.dropWet := h.same ⟨rfl, rfl, rfl, rfl, rfl, rfl⟩

theorem State.KeepsLaws.endDispense (h : s.KeepsLaws t) : s.KeepsLaws t.endDispense :=
  h.same ⟨rfl, rfl, rfl, rfl, rfl, rfl⟩

theorem State.KeepsLaws.consume (h : s.KeepsLaws t) {i : CaptureInput} {m : EdgeMatch} : s.KeepsLaws (t.consume i m) :=
  h.setCapture

theorem State.KeepsLaws.emptyCapture (h : s.KeepsLaws t) {i : CaptureInput} : s.KeepsLaws (t.emptyCapture i) :=
  h.setCapture

theorem State.KeepsLaws.handOut (h : s.KeepsLaws t) {p row : Nat} : s.KeepsLaws (t.handOut p row).2 :=
  h.same (by simp [State.SameBooks])

theorem State.KeepsLaws.serveNextSite (h : s.KeepsLaws t) : s.KeepsLaws t.serveNextSite :=
  h.same (by simp [State.SameBooks])

theorem State.KeepsLaws.removePlacer (h : s.KeepsLaws t) {x : Head} : s.KeepsLaws (t.removePlacer x) := h.setPlacement

theorem State.KeepsLaws.servePlacers (h : s.KeepsLaws t) : s.KeepsLaws t.servePlacers :=
  h.same (by simp [State.SameBooks])

theorem State.KeepsLaws.endAssignment (h : s.KeepsLaws t) {x : Head} : s.KeepsLaws (t.endAssignment x) := h.setPlacement

theorem State.KeepsLaws.startWait (h : s.KeepsLaws t) {p : Port} {e : Time} : s.KeepsLaws (t.startWait p e) :=
  h.same (by simp [State.SameBooks])

theorem State.KeepsLaws.moveEntry (h : s.KeepsLaws t) {n : Nat} : s.KeepsLaws (t.moveEntry n) := h.setTrack

theorem State.KeepsLaws.fillPositions (h : s.KeepsLaws t) {n : Nat} : s.KeepsLaws (t.fillPositions n) :=
  h.same (by simp [State.SameBooks])

theorem State.KeepsLaws.becomeStill (h : s.KeepsLaws t) : s.KeepsLaws t.becomeStill :=
  h.same (by simp [State.SameBooks])

theorem State.KeepsLaws.badOnTrack (h : s.KeepsLaws t) {p : Nat} {c : Column} {m : Byte} :
    s.KeepsLaws (t.badOnTrack p c m) := h.same (by simp [State.SameBooks])

theorem State.KeepsLaws.badInQueue (h : s.KeepsLaws t) {id : Word} {column : Nat} {m : Byte} :
    s.KeepsLaws (t.badInQueue id column m) := h.setTrack

theorem State.KeepsLaws.acceptCancel (h : s.KeepsLaws t) {p : Port} {r : Request} : s.KeepsLaws (t.acceptCancel p r) :=
  h.answerHeld.reply

theorem State.KeepsLaws.answerMode (h : s.KeepsLaws t) {p : Port} {c : Command} : s.KeepsLaws (t.answerMode p c) :=
  h.same (by simp [State.SameBooks])

theorem State.KeepsLaws.enableHead (h : s.KeepsLaws t) {x : Head} : s.KeepsLaws (t.enableHead x) :=
  h.same (by simp [State.SameBooks])

/-! ## Notices -/

/-- A notice joins a queue that has room, or is counted as dropped (R153). -/
theorem notify_noticesBounded (h : s.NoticesBounded) (k : NoticeKind) (ws : List Word) :
    (s.notify k ws).NoticesBounded := by
  obtain ⟨bounded, dropped⟩ := h
  unfold State.notify
  split
  · next room =>
    refine ⟨by simpa using room, fun pos => ?_⟩
    have full : s.report.notices.length = Config.noticeCapacity := dropped pos
    omega
  · next full =>
    exact ⟨bounded, fun _ => Nat.le_antisymm bounded (Nat.le_of_not_lt full)⟩

theorem notify_logSum (s : State) (k : NoticeKind) (ws : List Word) : (s.notify k ws).logSum = s.logSum := by
  simp [State.logSum]

theorem State.KeepsLaws.notify (h : s.KeepsLaws t) {k : NoticeKind} {ws : List Word} : s.KeepsLaws (t.notify k ws) := by
  refine h.trans (.of_blocks (by simp) (by simp) (by simp) (fun l => l.of_le (Nat.le_of_eq (notify_logSum ..)))
    (notify_noticesBounded · k ws) (fun m => ?_))
  refine m.of_eq ?_ ?_ ?_ ?_ ?_ ?_ <;> simp

/-- The reading of notices frees places before it queues NOTICES-DROPPED (R153, R154). -/
theorem State.KeepsLaws.removeNotices (h : s.KeepsLaws t) {k : Nat} (pos : 1 ≤ k) : s.KeepsLaws (t.removeNotices k) := by
  refine h.trans (.of_blocks rfl rfl rfl (fun l => l) (fun n => ⟨?_, nofun⟩) fun m => m.of_eq rfl rfl rfl rfl rfl rfl)
  have bounded : t.report.notices.length ≤ 32 := n.1
  have full : 0 < t.report.dropped → t.report.notices.length = 32 := n.2
  show (if 0 < t.report.dropped then _ else _ : List Notice).length ≤ 32
  split <;> simp only [List.length_append, List.length_drop, List.length_singleton] <;> omega

theorem State.KeepsLaws.removeRecords (h : s.KeepsLaws t) {k : Nat} : s.KeepsLaws (t.removeRecords k) := by
  refine h.trans (.of_blocks rfl rfl rfl (fun l => l.of_le ?_) (fun n => n) fun m => m.of_eq rfl rfl rfl rfl rfl rfl)
  simp only [State.logSum, State.removeRecords, setReport_report, setReport_claims, List.length_drop]
  omega

/-! ## Claim lists -/

/-- The entries of both claim lists. -/
def State.claimCount (s : State) : Nat := s.claims.a.length + s.claims.b.length

theorem setClaims_claimCount (s : State) (h : Head) (l : List Claim) :
    (s.setClaims h l).claimCount + (s.claimsOf h).length = s.claimCount + l.length := by
  cases h <;> simp [State.claimCount, State.setClaims, State.claimsOf, PerHead.set, PerHead.get] <;> omega

theorem State.KeepsLaws.of_setClaims (h : s.KeepsLaws t) {x : Head} {l : List Claim}
    (le : l.length ≤ (t.claimsOf x).length) : s.KeepsLaws (t.setClaims x l) := by
  refine h.trans (.of_blocks rfl rfl rfl (fun r => r.of_le ?_) (fun n => n) fun m => m.of_eq rfl rfl rfl rfl rfl rfl)
  have count := setClaims_claimCount t x l
  simp only [State.logSum, State.claimCount, setClaims_report] at count ⊢
  omega

theorem State.KeepsLaws.removeClaim (h : s.KeepsLaws t) {x : Head} {die : Nat} {st : ClaimState} :
    s.KeepsLaws (t.removeClaim x die st) := h.of_setClaims List.length_eraseP_le

theorem State.KeepsLaws.updateClaim (h : s.KeepsLaws t) {x : Head} {die : Nat} {st : ClaimState} {f : Claim → Claim} :
    s.KeepsLaws (t.updateClaim x die st f) := h.of_setClaims (by simp)

theorem State.KeepsLaws.moveClaim (h : s.KeepsLaws t) {x : Head} {die : Nat} {old new : ClaimState} :
    s.KeepsLaws (t.moveClaim x die old new) := h.updateClaim

/-- A claim is added only while the log reserve is not exhausted (R43). -/
theorem State.KeepsLaws.addClaim (h : s.KeepsLaws t) {x : Head} {c : Claim} (room : t.logExhausted = false) :
    s.KeepsLaws (t.setClaims x (t.claimsOf x ++ [c])) := by
  refine h.trans (.of_blocks rfl rfl rfl (fun _ => ?_) (fun n => n) fun m => m.of_eq rfl rfl rfl rfl rfl rfl)
  have count := setClaims_claimCount t x (t.claimsOf x ++ [c])
  simp only [State.logExhausted, decide_eq_false_iff_not] at room
  simp only [State.LogRoom, State.logSum, State.claimCount, setClaims_report, List.length_append,
    List.length_singleton] at count room ⊢
  omega

/-- A bond record takes the place of the CARRIED entry (R43, R126). -/
theorem State.KeepsLaws.bond (h : s.KeepsLaws t) {x : Head} {c : Claim} {b : BondRecord}
    (carried : t.carriedClaim x = some c) :
    s.KeepsLaws (((t.removeClaim x c.die .carried).endAssignment x).appendRecord b) := by
  refine h.trans (.of_blocks rfl rfl rfl (fun r => r.of_le ?_) (fun n => n) fun m => m.of_eq rfl rfl rfl rfl rfl rfl)
  have mem : c ∈ t.claimsOf x := List.mem_of_find?_eq_some carried
  have state : (c.state == .carried) = true := by simpa using List.find?_some carried
  have erased := List.length_eraseP_of_mem mem (p := fun y => y.isFor c.die .carried) (by simp [Claim.isFor, state])
  have pos := List.length_pos_of_mem mem
  have count := setClaims_claimCount t x ((t.claimsOf x).eraseP fun y => y.isFor c.die .carried)
  have log : (((t.removeClaim x c.die .carried).endAssignment x).appendRecord b).report.log.length
      = t.report.log.length + 1 := by
    simp [State.appendRecord]
  have claims : (((t.removeClaim x c.die .carried).endAssignment x).appendRecord b).claims
      = (t.setClaims x ((t.claimsOf x).eraseP fun y => y.isFor c.die .carried)).claims := rfl
  simp only [State.logSum, log, claims]
  simp only [State.claimCount] at count
  omega

/-! ## The die map's lists and latches -/

/-- The map's fields that its law reads are the same in both maps. -/
def DieMap.SameTally (m n : DieMap) : Prop :=
  n.phase = m.phase ∧ n.nextIndex = m.nextIndex ∧ n.table = m.table ∧ n.counts = m.counts ∧ n.eligible = m.eligible

theorem State.KeepsLaws.setMap_of_counted (h : s.KeepsLaws t) {m : DieMap} (counted : t.MapCounted → (t.setMap m).MapCounted) :
    s.KeepsLaws (t.setMap m) :=
  h.trans (.of_blocks rfl rfl rfl (fun l => l) (fun n => n) counted)

theorem State.KeepsLaws.setMap (h : s.KeepsLaws t) {m : DieMap} (e : t.map.SameTally m) : s.KeepsLaws (t.setMap m) := by
  obtain ⟨phase, next, table, counts, eligible⟩ := e
  exact h.setMap_of_counted fun k => k.of_eq phase next table counts eligible rfl

theorem State.KeepsLaws.evalWaferLow (h : s.KeepsLaws t) : s.KeepsLaws t.evalWaferLow := by
  unfold State.evalWaferLow
  split
  · exact h
  · exact h
  · split
    · split
      · exact h
      · refine .notify (h.setMap ?_)
        exact ⟨rfl, rfl, rfl, rfl, rfl⟩
    · exact h.setMap ⟨rfl, rfl, rfl, rfl, rfl⟩

/-! ## A transition of die state -/

theorem DieCounts.get_set (c : DieCounts) (x y : DieState) (n : Nat) :
    (c.set x n).get y = if y = x then n else c.get y := by
  cases x <;> cases y <;> rfl

/-- A die that moves between two counts: the old one falls, the new one rises (R3). -/
theorem DieCounts.get_move (c : DieCounts) (old new d : DieState) :
    (c.move old new).get d = c.get d - (if old = d then 1 else 0) + if new = d then 1 else 0 := by
  simp only [DieCounts.move, DieCounts.get_set]
  by_cases hn : d = new
  · subst hn
    by_cases ho : d = old
    · subst ho; simp
    · simp [ho, Ne.symm ho]
  · by_cases ho : d = old
    · subst ho; simp [hn, Ne.symm hn]
    · simp [hn, ho, Ne.symm hn, Ne.symm ho]

/-- The map in which a record has changed state and the nine counts have followed, before the lists and latches. -/
def DieMap.moved (m : DieMap) (i : Nat) (d : DieRecord) (new : DieState) (cause : Option DieCause) (head : Option Head) :
    DieMap :=
  { m with
    table := m.table.set i { d with state := new, cause := cause, claimant := head }
    counts := m.counts.move d.state new }

/-- What a transition out of a record's state brings: the die leaves AVAILABLE, when it stood there. -/
def State.withRecordLeft (s : State) (d : DieRecord) : State :=
  if d.state = .available then s.leaveAvailable d.bin else s

/-- What a transition into a state brings: the die enters AVAILABLE, when that is the state. -/
def State.withRecordEntered (s : State) (i : Nat) (d : DieRecord) (new : DieState) : State :=
  if new = .available then s.enterAvailable i d.bin else s

/-- A transition in its three parts: the record with its counts, then what leaving and entering AVAILABLE bring. -/
theorem moveDie_of_record {w : WaferInfo} {i : Nat} {d : DieRecord} (ready : s.map.phase = .ready w)
    (found : s.map.table[i]? = some d) (new : DieState) (cause : Option DieCause) (head : Option Head) :
    s.moveDie w.wafer i new cause head
      = ((s.setMap (s.map.moved i d new cause head)).withRecordLeft d).withRecordEntered i d new := by
  simp only [State.moveDie, readyWafer_of_ready ready, if_true, found, DieMap.moved, State.withRecordLeft,
    State.withRecordEntered]

theorem leaveAvailable_eligible (s : State) (bin : Nat) :
    (s.leaveAvailable bin).map.eligible = s.map.eligible - bit (s.binSelected bin) := by
  unfold State.leaveAvailable
  split <;> simp [*, bit]

theorem enterAvailable_eligible (s : State) (i bin : Nat) :
    (s.enterAvailable i bin).map.eligible = s.map.eligible + bit (s.binSelected bin) := by
  have queued : ∀ m : DieMap, (s.setMap m).binSelected bin = s.binSelected bin := fun _ => rfl
  simp only [State.enterAvailable]
  cases sel : s.binSelected bin <;> split <;> simp [queued, sel, bit]

theorem withRecordLeft_map (s : State) (d : DieRecord) :
    (s.withRecordLeft d).map.table = s.map.table ∧ (s.withRecordLeft d).map.counts = s.map.counts
      ∧ (s.withRecordLeft d).map.eligible = s.map.eligible - bit (s.dieEligible d)
      ∧ (s.withRecordLeft d).settings = s.settings := by
  by_cases old : d.state = .available <;>
    simp [State.withRecordLeft, old, leaveAvailable_eligible, State.dieEligible, bit]

theorem withRecordEntered_map (s : State) (i : Nat) (d : DieRecord) (new : DieState) :
    (s.withRecordEntered i d new).map.table = s.map.table ∧ (s.withRecordEntered i d new).map.counts = s.map.counts
      ∧ (s.withRecordEntered i d new).map.eligible
          = s.map.eligible + bit (decide (new = .available) && s.binSelected d.bin) := by
  by_cases into : new = .available <;> simp [State.withRecordEntered, into, enterAvailable_eligible, bit]

/-- The eligible-available count after a transition (R13). -/
theorem moveDie_eligible {w : WaferInfo} {i : Nat} {d : DieRecord} (ready : s.map.phase = .ready w)
    (found : s.map.table[i]? = some d) (new : DieState) (cause : Option DieCause) (head : Option Head) :
    (s.moveDie w.wafer i new cause head).map.eligible
      = s.map.eligible - bit (s.dieEligible d) + bit (decide (new = .available) && s.binSelected d.bin) := by
  rw [moveDie_of_record ready found]
  obtain ⟨_, _, left, settings⟩ := withRecordLeft_map (s.setMap (s.map.moved i d new cause head)) d
  obtain ⟨_, _, entered⟩ :=
    withRecordEntered_map ((s.setMap (s.map.moved i d new cause head)).withRecordLeft d) i d new
  have bins : ∀ u : State, u.settings = s.settings → u.binSelected d.bin = s.binSelected d.bin := by
    intro u e
    simp only [State.binSelected, e]
  rw [entered, left, bins _ settings]
  rfl

/-- The table and the nine counts after a transition (R2, R3). -/
theorem moveDie_table {w : WaferInfo} {i : Nat} {d : DieRecord} (ready : s.map.phase = .ready w)
    (found : s.map.table[i]? = some d) (new : DieState) (cause : Option DieCause) (head : Option Head) :
    (s.moveDie w.wafer i new cause head).map.table
        = s.map.table.set i { d with state := new, cause := cause, claimant := head }
      ∧ (s.moveDie w.wafer i new cause head).map.counts = s.map.counts.move d.state new := by
  rw [moveDie_of_record ready found]
  obtain ⟨leftTable, leftCounts, _⟩ := withRecordLeft_map (s.setMap (s.map.moved i d new cause head)) d
  obtain ⟨table, counts, _⟩ :=
    withRecordEntered_map ((s.setMap (s.map.moved i d new cause head)).withRecordLeft d) i d new
  exact ⟨table.trans leftTable, counts.trans leftCounts⟩

/-- A transition that finds no record to change (R2). -/
theorem moveDie_of_no_record {wafer : Word} {i : Nat}
    (h : ∀ w d, s.map.phase = .ready w → w.wafer = wafer → s.map.table[i]? ≠ some d) (new : DieState)
    (cause : Option DieCause) (head : Option Head) : s.moveDie wafer i new cause head = s := by
  unfold State.moveDie
  split
  · rfl
  · next w ready =>
    split
    · next named =>
      split
      · rfl
      · next d found => exact absurd found (h w d (ready_of_readyWafer ready) named)
    · rfl

theorem bit_eq_ite (b : Bool) : bit b = if b = true then 1 else 0 := by cases b <;> rfl

/-- Every count of die by a test follows a change of one record. -/
theorem countP_set_record {l : List DieRecord} {i : Nat} {d : DieRecord} (found : l[i]? = some d) (e : DieRecord)
    (p : DieRecord → Bool) : (l.set i e).countP p = l.countP p - bit (p d) + bit (p e) := by
  obtain ⟨lt, rfl⟩ := List.getElem?_eq_some_iff.mp found
  rw [List.countP_set lt, bit_eq_ite, bit_eq_ite]

theorem moveDie_counted (h : s.MapCounted) (wafer : Word) (i : Nat) (new : DieState) (cause : Option DieCause)
    (head : Option Head) : (s.moveDie wafer i new cause head).MapCounted := by
  by_cases hit : ∃ w d, s.map.phase = .ready w ∧ w.wafer = wafer ∧ s.map.table[i]? = some d
  · obtain ⟨w, d, ready, rfl, found⟩ := hit
    obtain ⟨next, counts, eligible⟩ := h (by rw [ready]; nofun)
    have el := moveDie_eligible ready found new cause head
    obtain ⟨table, moved⟩ := moveDie_table ready found new cause head
    have phase : (s.moveDie w.wafer i new cause head).map.phase = s.map.phase := by simp
    have nextIndex : (s.moveDie w.wafer i new cause head).map.nextIndex = s.map.nextIndex := by simp
    have settings : (s.moveDie w.wafer i new cause head).settings = s.settings := by simp
    refine fun _ => ⟨?_, fun st => ?_, fun isReady => ?_⟩
    · rw [nextIndex, table, List.length_set, next]
    · rw [moved, DieCounts.get_move, counts st, DieMap.inState, DieMap.inState, table, countP_set_record found]
      simp [bit_eq_ite]
    · rw [el, State.countEligible, table, countP_set_record found,
        eligible (by rw [readyWafer_of_ready ready]; rfl), State.countEligible]
      have test : (s.moveDie w.wafer i new cause head).dieEligible = s.dieEligible := by
        funext e
        simp only [State.dieEligible, State.binSelected, settings]
      rw [test]
      congr 2
  · rw [moveDie_of_no_record fun w d ready named found => hit ⟨w, d, ready, named, found⟩]
    exact h

theorem evalWaferLow_noticesBounded (h : s.NoticesBounded) : s.evalWaferLow.NoticesBounded :=
  (State.KeepsLaws.refl s).evalWaferLow.notices h

theorem leaveAvailable_noticesBounded (h : s.NoticesBounded) (bin : Nat) : (s.leaveAvailable bin).NoticesBounded := by
  unfold State.leaveAvailable
  split
  · exact evalWaferLow_noticesBounded h
  · exact h

theorem enterAvailable_noticesBounded (h : s.NoticesBounded) (i bin : Nat) :
    (s.enterAvailable i bin).NoticesBounded := by
  simp only [State.enterAvailable]
  split <;> split <;> first | exact h | exact evalWaferLow_noticesBounded h

theorem moveDie_noticesBounded (h : s.NoticesBounded) (wafer : Word) (i : Nat) (new : DieState)
    (cause : Option DieCause) (head : Option Head) : (s.moveDie wafer i new cause head).NoticesBounded := by
  by_cases hit : ∃ w d, s.map.phase = .ready w ∧ w.wafer = wafer ∧ s.map.table[i]? = some d
  · obtain ⟨w, d, ready, rfl, found⟩ := hit
    have moved : (s.setMap (s.map.moved i d new cause head)).NoticesBounded := h
    rw [moveDie_of_record ready found]
    unfold State.withRecordEntered State.withRecordLeft
    split <;> split
    · exact enterAvailable_noticesBounded (leaveAvailable_noticesBounded moved _) ..
    · exact enterAvailable_noticesBounded moved ..
    · exact leaveAvailable_noticesBounded moved _
    · exact moved
  · rw [moveDie_of_no_record fun w d ready named found => hit ⟨w, d, ready, named, found⟩]
    exact h

theorem State.KeepsLaws.moveDie (h : s.KeepsLaws t) {wafer : Word} {i : Nat} {new : DieState} {cause : Option DieCause}
    {head : Option Head} : s.KeepsLaws (t.moveDie wafer i new cause head) :=
  h.trans (.of_blocks (by simp) (by simp) (by simp) (fun l => l.of_le (by simp [State.logSum]))
    (fun n => moveDie_noticesBounded n ..) (fun m => moveDie_counted m wafer i new cause head))

/-- The retries of a die are no part of any count (R57). -/
theorem State.KeepsLaws.setRetries (h : s.KeepsLaws t) {wafer : Word} {i n : Nat} :
    s.KeepsLaws (t.setRetries wafer i n) := by
  unfold State.setRetries
  split
  · exact h
  · split
    · split
      · exact h
      · next d found =>
        refine h.setMap_of_counted fun k loaded => ?_
        obtain ⟨next, counts, eligible⟩ := k loaded
        have same : ∀ p : DieRecord → Bool, p { d with retries := n } = p d →
            (t.map.table.set i { d with retries := n }).countP p = t.map.table.countP p := by
          intro p e
          rw [countP_set_record found, e]
          obtain ⟨lt, rfl⟩ := List.getElem?_eq_some_iff.mp found
          have := List.boole_getElem_le_countP (p := p) lt
          rw [bit_eq_ite]
          omega
        refine ⟨by simpa using next, fun st => ?_, fun ready => ?_⟩
        · exact (counts st).trans (same _ rfl).symm
        · exact (eligible ready).trans (same _ rfl).symm
    · exact h

/-! ## Selection, and the serving of RESERVE -/

theorem State.KeepsLaws.rejectUnreachable (h : s.KeepsLaws t) {w : WaferInfo} {i : Nat} {d : DieRecord} :
    s.KeepsLaws (t.rejectUnreachable w i d) := h.moveDie.notify

theorem State.KeepsLaws.tryDie (h : s.KeepsLaws t) {w : WaferInfo} {i : Nat} : s.KeepsLaws (t.tryDie w i).2 := by
  unfold State.tryDie
  split
  · exact h
  · split
    · split
      · exact h
      · exact h.rejectUnreachable
    · exact h

theorem State.KeepsLaws.selectQueued {w : WaferInfo} {l : List Nat} (h : s.KeepsLaws t) :
    s.KeepsLaws (selectQueued w l t).2 := by
  induction l generalizing t with
  | nil => exact h
  | cons i rest ih =>
    have tried := (h.setMap (m := { t.map with returned := rest }) ⟨rfl, rfl, rfl, rfl, rfl⟩).tryDie (w := w) (i := i)
    unfold Machine.selectQueued
    split
    · next e => rw [e] at tried; exact tried
    · next e => rw [e] at tried; exact ih tried

theorem State.KeepsLaws.selectScan {w : WaferInfo} {n : Nat} (h : s.KeepsLaws t) : s.KeepsLaws (selectScan w n t).2 := by
  induction n generalizing t with
  | zero => exact h
  | succ n ih =>
    have tried := (h.setMap (m := { t.map with cursor := t.map.cursor + 1 }) ⟨rfl, rfl, rfl, rfl, rfl⟩).tryDie (w := w)
      (i := t.map.cursor)
    unfold Machine.selectScan
    split
    · next e => rw [e] at tried; exact tried
    · next e => rw [e] at tried; exact ih tried

theorem State.KeepsLaws.selectScans {w : WaferInfo} (h : s.KeepsLaws t) : s.KeepsLaws (selectScans w t).2 := by
  have scanned := h.selectScan (w := w) (n := w.dieCount - t.map.cursor)
  unfold Machine.selectScans
  split
  · next e => rw [e] at scanned; exact scanned
  · next e =>
    rw [e] at scanned
    split
    · refine .selectScan (scanned.setMap ?_)
      exact ⟨rfl, rfl, rfl, rfl, rfl⟩
    · exact scanned

theorem State.KeepsLaws.selectDie {w : WaferInfo} (h : s.KeepsLaws t) : s.KeepsLaws (selectDie w t).2 := by
  have queued := h.selectQueued (w := w) (l := t.map.returned)
  unfold Machine.selectDie
  split
  · next e => rw [e] at queued; exact queued
  · next e => rw [e] at queued; exact queued.selectScans

theorem State.KeepsLaws.nothingFound (h : s.KeepsLaws t) {w : WaferInfo} : s.KeepsLaws (t.nothingFound w) := by
  unfold State.nothingFound
  split
  · exact h
  · refine .notify (h.setMap ?_)
    exact ⟨rfl, rfl, rfl, rfl, rfl⟩

theorem selectDie_logExhausted (w : WaferInfo) (s : State) : (selectDie w s).2.logExhausted = s.logExhausted := by
  have sum : (selectDie w s).2.logSum = s.logSum := by simp [State.logSum]
  simp only [State.logExhausted, sum]

theorem moveDie_logExhausted (s : State) (wafer : Word) (i : Nat) (new : DieState) (cause : Option DieCause)
    (head : Option Head) : (s.moveDie wafer i new cause head).logExhausted = s.logExhausted := by
  have sum : (s.moveDie wafer i new cause head).logSum = s.logSum := by simp [State.logSum]
  simp only [State.logExhausted, sum]

/-- A RESERVE is served only while the log reserve is not exhausted (R42, R43). -/
theorem State.KeepsLaws.serveReserve (h : s.KeepsLaws t) {x : Head} {w : WaferInfo} (room : t.logExhausted = false) :
    s.KeepsLaws (t.serveReserve x w).2 := by
  have chosen := h.selectDie (w := w)
  have left := selectDie_logExhausted w t
  unfold State.serveReserve
  split
  · next e => rw [e] at chosen; exact chosen.nothingFound
  · next e =>
    rw [e] at chosen left
    split
    · exact chosen
    · exact chosen.moveDie.addClaim (by rw [moveDie_logExhausted]; exact left.trans room)

theorem State.KeepsLaws.tryReserve (h : s.KeepsLaws t) {x : Head} {a : Answer} {u : State}
    (e : t.tryReserve x = some (a, u)) : s.KeepsLaws u := by
  unfold State.tryReserve at e
  split at e
  · cases e
  · next w _ =>
    split at e
    · cases e
    · next room =>
      simp only [Option.some.injEq] at e
      have served := h.serveReserve (x := x) (w := w) (by simpa using room)
      rw [e] at served
      exact served

theorem State.KeepsLaws.wakeReserve (h : s.KeepsLaws t) {x : Head} : s.KeepsLaws (t.wakeReserve x) := by
  unfold State.wakeReserve
  split
  · split
    · exact h
    · next e => exact (h.tryReserve e).answerHeld
  · exact h

theorem State.KeepsLaws.wakeReserves (h : s.KeepsLaws t) : s.KeepsLaws t.wakeReserves := by
  unfold State.wakeReserves
  split <;> exact h.wakeReserve.wakeReserve

/-! ## The pick station -/

theorem State.KeepsLaws.grantReachable (h : s.KeepsLaws t) {e : Waiter} {w : WaferInfo} {d : DieRecord} :
    s.KeepsLaws (t.grantReachable e w d) := by
  unfold State.grantReachable
  exact h.moveDie.moveClaim.setArbiter.deliver

theorem State.KeepsLaws.grantUnreachable (h : s.KeepsLaws t) {e : Waiter} {w : WaferInfo} {d : DieRecord} :
    s.KeepsLaws (t.grantUnreachable e w d) := h.moveDie.removeClaim.notify.answerHeld

theorem State.KeepsLaws.grantEntries {l : List Waiter} (h : s.KeepsLaws t) : s.KeepsLaws (grantEntries l t) := by
  induction l generalizing t with
  | nil => exact h.setArbiter
  | cons e rest ih =>
    unfold Machine.grantEntries
    simp only
    split
    · exact ih h.setArbiter
    · split
      · exact ih h.setArbiter
      · split
        · exact h.setArbiter.grantReachable
        · exact ih h.setArbiter.grantUnreachable

theorem State.KeepsLaws.applyGrants (h : s.KeepsLaws t) : s.KeepsLaws t.applyGrants := by
  unfold State.applyGrants
  split
  · exact h.grantEntries
  · exact h

theorem State.KeepsLaws.stationWakes (h : s.KeepsLaws t) : s.KeepsLaws t.stationWakes := h.applyGrants.wakeReserves

theorem State.KeepsLaws.rejectClaimed (h : s.KeepsLaws t) {x : Head} {die : Nat} {wafer : Word} {st : ClaimState}
    {cause : DieCause} : s.KeepsLaws (t.rejectClaimed x die wafer st cause) := h.moveDie.removeClaim.notify

theorem State.KeepsLaws.returnReserved (h : s.KeepsLaws t) {x : Head} {die : Nat} {wafer : Word} {st : ClaimState} :
    s.KeepsLaws (t.returnReserved x die wafer st) := h.moveDie.moveClaim

/-! ## The track, the sites and their wake-ups -/

theorem State.KeepsLaws.drainTest (h : s.KeepsLaws t) : s.KeepsLaws t.drainTest := by
  unfold State.drainTest
  split
  · split
    · exact h.setTrack.notify
    · exact h
  · exact h
  · exact h

theorem State.KeepsLaws.siteWakes (h : s.KeepsLaws t) : s.KeepsLaws t.siteWakes :=
  h.drainTest.serveNextSite.servePlacers

theorem State.KeepsLaws.removeColumn (h : s.KeepsLaws t) {p : Nat} : s.KeepsLaws (t.removeColumn p) := by
  unfold State.removeColumn
  split
  · exact h
  · refine .notify (h.same ?_)
    exact ⟨rfl, rfl, rfl, rfl, rfl, rfl⟩

theorem State.KeepsLaws.removeColumns {l : List Nat} (h : s.KeepsLaws t) : s.KeepsLaws (t.removeColumns l) := by
  induction l generalizing t with
  | nil => exact h
  | cons p rest ih => exact ih h.removeColumn

theorem State.KeepsLaws.clearTrack (h : s.KeepsLaws t) : s.KeepsLaws t.clearTrack :=
  h.removeColumns.setTrack.serveNextSite

theorem State.KeepsLaws.shift (h : s.KeepsLaws t) {n : Nat} : s.KeepsLaws (t.shift n) :=
  h.removeColumns.moveEntry.fillPositions

theorem State.KeepsLaws.spoil (h : s.KeepsLaws t) {strip : Word} {column row p : Nat} {reason : SpoilReason}
    {st : Option Stamp} : s.KeepsLaws (t.spoil strip column row p reason st) := by
  have spoilt := (h.setSite (p := p) (row := row) (x := .spoiled reason st)).dropWet.notify (k := .siteSpoiled)
    (ws := siteNotice strip column row p reason.code)
  unfold State.spoil
  simp only
  split
  · exact spoilt.same ⟨rfl, rfl, rfl, rfl, rfl, rfl⟩
  · exact spoilt

theorem State.KeepsLaws.releaseSite (h : s.KeepsLaws t) {x : Head} : s.KeepsLaws (t.releaseSite x) := by
  unfold State.releaseSite
  split
  · exact h
  · split
    · split
      · exact h.endAssignment.spoil
      · exact h.endAssignment.setSite
    · exact h.endAssignment

/-! ## Entry into abort -/

theorem State.KeepsLaws.disposeClaim (h : s.KeepsLaws t) {x : Head} {c : Claim} : s.KeepsLaws (t.disposeClaim x c) := by
  unfold State.disposeClaim
  split
  · exact h.removeClaim.moveDie
  · exact h.removeClaim.moveDie.freeStation
  · exact h.removeClaim.moveDie.freeStation.notify
  · exact h

theorem State.KeepsLaws.disposeClaimList {x : Head} {l : List Claim} (h : s.KeepsLaws t) :
    s.KeepsLaws (l.foldl (State.disposeClaim x) t) := by
  induction l generalizing t with
  | nil => exact h
  | cons c rest ih => exact ih h.disposeClaim

theorem State.KeepsLaws.disposeHead (h : s.KeepsLaws t) {x : Head} : s.KeepsLaws (t.disposeHead x) :=
  h.removeWaiter.disposeClaimList.removePlacer.releaseSite.emptyCapture.siteWakes.stationWakes

theorem State.KeepsLaws.dispose (h : s.KeepsLaws t) {p : Port} : s.KeepsLaws (t.dispose p) := by
  cases p with
  | cell => exact h
  | headA => exact h.disposeHead
  | headB => exact h.disposeHead
  | table =>
    show s.KeepsLaws t.disposeTable
    unfold State.disposeTable
    split
    · exact h.returnReserved.freeStation.answerHeld.stationWakes
    all_goals exact h
  | dispense =>
    show s.KeepsLaws t.disposeDispense
    unfold State.disposeDispense
    split
    · exact h.emptyCapture
    · split
      · exact h.endDispense.emptyCapture
      · exact h.spoil.endDispense.emptyCapture.siteWakes

theorem State.KeepsLaws.enterAbort (h : s.KeepsLaws t) {p : Port} {c : AbortCause} {b : Bool} :
    s.KeepsLaws (t.enterAbort p c b) := by
  rw [enterAbort_eq]
  exact h.setLink.notify.dispose

theorem State.KeepsLaws.causeReaches (h : s.KeepsLaws t) {p : Port} {c : AbortCause} {b : Bool} :
    s.KeepsLaws (t.causeReaches p c b) := by
  unfold State.causeReaches
  split
  · exact h.setLink
  · exact h.enterAbort

theorem State.KeepsLaws.requestHalt (h : s.KeepsLaws t) {p : Port} : s.KeepsLaws (t.requestHalt p) := by
  unfold State.requestHalt
  split
  · exact h.causeReaches
  · exact h.setLink

theorem State.KeepsLaws.requestHalts (h : s.KeepsLaws t) : s.KeepsLaws t.requestHalts :=
  h.requestHalt.requestHalt.requestHalt.requestHalt

/-! ## Modes and settings -/

theorem State.KeepsLaws.changeMode (h : s.KeepsLaws t) {m : LineMode} (started : m ≠ .init) :
    s.KeepsLaws (t.changeMode m) := by
  refine h.trans ⟨fun _ => ?_, fun k => k.of_le ?_, fun k => k.of_eq ?_ ?_, fun k => k.of_eq ?_ ?_ ?_ ?_ ?_ ?_, fun k => ?_,
    fun k => ?_⟩
  · have mode : (t.changeMode m).mode = m := by unfold State.changeMode; split <;> simp
    rw [mode]
    exact started
  all_goals simp [State.logSum, State.DriftBounded]
  · exact k
  · exact k

/-- A write changes its own setting alone (R169). -/
theorem get_put_ne (t : Settings) {m n : Nat} (z : Int) (h : m ≠ n) : (t.put n z).get m = t.get m := by
  unfold Settings.put
  split <;> (unfold Settings.get; split <;> first | rfl | exact absurd rfl h)

/-- DRIFT-MAX and BIN-SET are read back as they were after a write of another setting. -/
theorem put_keeps_driftMax (st : Settings) {n : Nat} (z : Int) (h : n ≠ 7) : (st.put n z).driftMax = st.driftMax := by
  have := get_put_ne st z (Ne.symm h)
  exact Int.ofNat_inj.mp this

theorem put_keeps_binSet (st : Settings) {n : Nat} (z : Int) (h : n ≠ 28) : (st.put n z).binSet = st.binSet := by
  have := get_put_ne st z (Ne.symm h)
  exact BitVec.eq_of_toNat_eq (Int.ofNat_inj.mp this)

end

end Sys2Proof.Machine
end

section
/-! SUPPORT. The laws of O7 to O10 over the requests: each request, once its port has taken it, is answered, held, or acts on
its blocks by the shared operations of `KeepsLaws`; the requests that load the map and write the settings have their own
argument. -/

namespace Sys2Proof.Machine

open Sys2Proof

section

variable {s t : State} {r : Request} {x : Head}

/-! ## The claim unit, the pick station and the placement unit -/

theorem takeReserve_keepsLaws (h : s.KeepsLaws t) : s.KeepsLaws (takeReserve x r t) := by
  unfold takeReserve
  iterate 3 (split; exact h.reply)
  split
  · next e => exact (h.tryReserve e).reply
  · split
    · exact h.reply
    · exact h.hold

theorem takeRelease_keepsLaws (h : s.KeepsLaws t) : s.KeepsLaws (takeRelease x r t) := by
  unfold takeRelease
  iterate 3 (split; exact h.reply)
  exact h.removeClaim.moveDie.reply.wakeReserves

theorem takeDiscard_keepsLaws (h : s.KeepsLaws t) : s.KeepsLaws (takeDiscard x r t) := by
  unfold takeDiscard
  iterate 4 (split; exact h.reply)
  exact h.removeClaim.moveDie.notify.releaseSite.reply.siteWakes.wakeReserves

theorem takePick_keepsLaws (h : s.KeepsLaws t) : s.KeepsLaws (takePick x r t) := by
  unfold takePick
  iterate 4 (split; exact h.reply)
  exact h.hold.setArbiter.stationWakes

theorem takePicked_keepsLaws (h : s.KeepsLaws t) : s.KeepsLaws (takePicked x r t) := by
  unfold takePicked
  iterate 3 (split; exact h.reply)
  exact h.moveDie.moveClaim.freeStation.reply.stationWakes

theorem takePickFail_keepsLaws (h : s.KeepsLaws t) : s.KeepsLaws (takePickFail x r t) := by
  unfold takePickFail
  iterate 4 (split; exact h.reply)
  split
  · exact h.rejectClaimed.freeStation.reply.stationWakes
  · split
    · exact h.setRetries.updateClaim.returnReserved.freeStation.reply.stationWakes
    · exact h.setRetries.rejectClaimed.freeStation.reply.stationWakes

theorem takePlace_keepsLaws (h : s.KeepsLaws t) : s.KeepsLaws (takePlace x r t) := by
  unfold takePlace
  iterate 4 (split; exact h.reply)
  have queued := h.hold (p := x.port) (r := r) (e := none)
  simp only
  split
  · split
    · exact queued.setPlacement.servePlacers.removePlacer.answerHeld
    · exact queued.setPlacement.servePlacers.startWait
  · exact queued.setPlacement.servePlacers

/-- A bond appends one record and removes the CARRIED claim for it (R124, R126). -/
theorem State.KeepsLaws.completeBond (h : s.KeepsLaws t) {a : Assigned} {c : Claim} {st : Stamp} {late : Bool}
    {m : EdgeMatch} (carried : t.carriedClaim x = some c) : s.KeepsLaws (t.completeBond x a c st late m) := by
  have placed := (h.setSite (p := a.position) (row := a.row) (x := .bonded st late a.die a.wafer)).dropWet.moveDie
    (wafer := a.wafer) (i := a.die) (new := .placed) (cause := none) (head := none)
  have bonded := placed.bond (x := x) (c := c) (b := bondRecord x a c st late m)
    (by simpa [State.carriedClaim, State.claimsOf] using carried)
  unfold State.completeBond
  simp only
  split
  · exact bonded.notify
  · exact bonded

theorem takeBonded_keepsLaws (h : s.KeepsLaws t) : s.KeepsLaws (takeBonded x r t) := by
  unfold takeBonded
  iterate 3 (split; exact h.reply)
  split
  · split
    · next carried => exact (h.consume.completeBond carried).reply.siteWakes
    · exact h.reply
  · exact h.reply

theorem State.KeepsLaws.misplace (h : s.KeepsLaws t) {a : Assigned} {st : Stamp} : s.KeepsLaws (t.misplace x a st) :=
  h.moveDie.removeClaim.endAssignment.spoil.notify

theorem takeBondFail_keepsLaws (h : s.KeepsLaws t) : s.KeepsLaws (takeBondFail x r t) := by
  unfold takeBondFail
  iterate 4 (split; exact h.reply)
  split
  · split
    · split
      · exact h.releaseSite.reply.siteWakes
      · exact h.misplace.reply.siteWakes.wakeReserves
    · exact h.reply
  · exact h.reply

theorem takeClaims_keepsLaws (h : s.KeepsLaws t) : s.KeepsLaws (takeClaims x r t) := by
  unfold takeClaims
  split <;> exact h.reply

/-! ## The table port and the dispense port -/

theorem takeAwaitOrder_keepsLaws (h : s.KeepsLaws t) : s.KeepsLaws (takeAwaitOrder r t) := by
  unfold takeAwaitOrder
  iterate 2 (split; exact h.reply)
  exact h.hold.deliver

theorem clampDrift_bounded (bound : Nat) (d : Int) : (clampDrift bound d).natAbs ≤ bound := by
  unfold clampDrift
  split
  · omega
  · split <;> omega

/-- A write of the drift alone, within its bound (R33, R35, R36). -/
theorem State.KeepsLaws.setDrift (h : s.KeepsLaws t) {d : Drift}
    (bounded : d.dx.natAbs ≤ t.settings.driftMax ∧ d.dy.natAbs ≤ t.settings.driftMax) :
    s.KeepsLaws { t with drift := d } :=
  h.trans ⟨id, id, id, id, id, fun _ => bounded⟩

theorem State.KeepsLaws.absorb (h : s.KeepsLaws t) {ex ey : Int} : s.KeepsLaws (t.absorb ex ey) :=
  h.setDrift ⟨clampDrift_bounded .., clampDrift_bounded ..⟩

theorem State.KeepsLaws.clampDrifts (h : s.KeepsLaws t) : s.KeepsLaws t.clampDrifts :=
  h.setDrift ⟨clampDrift_bounded .., clampDrift_bounded ..⟩

theorem State.KeepsLaws.zeroDrift (h : s.KeepsLaws t) : s.KeepsLaws t.zeroDrift :=
  h.setDrift ⟨Nat.zero_le _, Nat.zero_le _⟩

theorem State.KeepsLaws.presentAccepted (h : s.KeepsLaws t) {o : Order} {handout : Time} {ex ey : Int} :
    s.KeepsLaws (t.presentAccepted o handout ex ey) := by
  unfold State.presentAccepted
  exact h.absorb.moveDie.moveClaim.setArbiter.answerHeld

theorem takePresented_keepsLaws (h : s.KeepsLaws t) : s.KeepsLaws (takePresented r t) := by
  unfold takePresented
  iterate 3 (split; exact h.reply)
  simp only
  split
  · exact h.presentAccepted.reply
  · exact h.rejectClaimed.freeStation.answerHeld.reply.stationWakes

theorem takePresentFail_keepsLaws (h : s.KeepsLaws t) : s.KeepsLaws (takePresentFail r t) := by
  unfold takePresentFail
  iterate 4 (split; exact h.reply)
  split
  · exact h.rejectClaimed.freeStation.answerHeld.reply.stationWakes
  · exact h.returnReserved.freeStation.answerHeld.reply.stationWakes

theorem takeNextSite_keepsLaws (h : s.KeepsLaws t) : s.KeepsLaws (takeNextSite r t) := by
  unfold takeNextSite
  iterate 3 (split; exact h.reply)
  split
  · exact h.handOut.reply
  · split
    · exact h.reply
    · exact h.hold

theorem State.KeepsLaws.completeDispense (h : s.KeepsLaws t) {d : DispenseRef} {p : Nat} {st : Stamp} :
    s.KeepsLaws (t.completeDispense d p st) := by
  unfold State.completeDispense
  split
  · exact h.setSite.endDispense
  · exact h.spoil.endDispense

theorem takeDispensed_keepsLaws (h : s.KeepsLaws t) : s.KeepsLaws (takeDispensed r t) := by
  unfold takeDispensed
  iterate 3 (split; exact h.reply)
  split
  · split
    · exact h.reply
    · exact h.consume.completeDispense.reply.siteWakes
  · exact h.reply

theorem takeDispenseFail_keepsLaws (h : s.KeepsLaws t) : s.KeepsLaws (takeDispenseFail r t) := by
  unfold takeDispenseFail
  iterate 4 (split; exact h.reply)
  split
  · split
    · exact h.reply
    · split
      · exact h.setSite.dropWet.endDispense.reply.siteWakes
      · exact h.spoil.endDispense.reply.siteWakes
  · exact h.reply

/-! ## Map loading -/

/-- A map in which nothing is loaded meets the map law. -/
theorem State.KeepsLaws.unloadMap (h : s.KeepsLaws t) {m : DieMap} (none : m.phase = .none) :
    s.KeepsLaws (t.setMap m) :=
  h.setMap_of_counted fun _ loaded => absurd none loaded

theorem takeMapOpen_keepsLaws (h : s.KeepsLaws t) : s.KeepsLaws (takeMapOpen r t) := by
  unfold takeMapOpen
  iterate 3 (split; exact h.reply)
  split
  · exact h.reply
  · refine (h.setMap_of_counted fun _ _ => ⟨rfl, fun d => ?_, fun ready => ?_⟩).zeroDrift.reply
    · cases d <;> rfl
    · cases ready

/-- The counts of a table whose next index and per-state counts are true (R3, R6). -/
def DieMap.Tallied (m : DieMap) : Prop := m.nextIndex = m.table.length ∧ ∀ d, m.counts.get d = m.inState d

theorem store_tallied {m : DieMap} (h : m.Tallied) (e : MapEntry) : (m.store e).Tallied := by
  obtain ⟨next, counts⟩ := h
  refine ⟨by simp [DieMap.store, next], fun d => ?_⟩
  have count := counts d
  cases d <;> simp [DieMap.store, DieMap.inState, DieCounts.get, List.countP_append] at count ⊢ <;> exact count

/-- Storing entries keeps the counts true, and the map's phase (R7). -/
theorem storeEntries_tallied (w : WaferInfo) (l : List MapEntry) {m : DieMap} (h : m.Tallied) :
    (storeEntries w l m).2.2.Tallied ∧ (storeEntries w l m).2.2.phase = m.phase := by
  induction l generalizing m with
  | nil => exact ⟨h, rfl⟩
  | cons e rest ih =>
    unfold storeEntries
    split
    · exact ⟨h, rfl⟩
    · exact ih (store_tallied h e)

theorem takeMapDie_keepsLaws (h : s.KeepsLaws t) : s.KeepsLaws (takeMapDie r t) := by
  unfold takeMapDie
  iterate 2 (split; exact h.reply)
  · exact h.reply
  next w loading =>
    split
    · exact h.reply
    · refine (h.setMap_of_counted fun counted _ => ?_).reply
      obtain ⟨next, counts, -⟩ := counted (by rw [loading]; nofun)
      obtain ⟨⟨next', counts'⟩, phase⟩ := storeEntries_tallied w (entriesOf r.words.tail) ⟨next, counts⟩
      refine ⟨next', counts', fun ready => ?_⟩
      simp [State.readyWafer, phase, loading] at ready

theorem State.KeepsLaws.closeMap (h : s.KeepsLaws t) {w v : WaferInfo} (loading : t.map.phase = .loading v) :
    s.KeepsLaws (t.closeMap w) := by
  refine h.setMap_of_counted fun counted _ => ?_
  obtain ⟨next, counts, -⟩ := counted (by rw [loading]; nofun)
  exact ⟨next, counts, fun _ => rfl⟩

theorem takeMapClose_keepsLaws (h : s.KeepsLaws t) : s.KeepsLaws (takeMapClose r t) := by
  unfold takeMapClose
  iterate 2 (split; exact h.reply)
  · exact h.reply
  next loading =>
    split
    · exact h.reply
    · exact (h.closeMap loading).evalWaferLow.reply.wakeReserves

theorem takeMapAbandon_keepsLaws (h : s.KeepsLaws t) : s.KeepsLaws (takeMapAbandon r t) := by
  unfold takeMapAbandon
  iterate 2 (split; exact h.reply)
  · exact h.reply
  exact (h.unloadMap rfl).reply

theorem takeMapAlign_keepsLaws (h : s.KeepsLaws t) : s.KeepsLaws (takeMapAlign r t) := by
  unfold takeMapAlign
  iterate 2 (split; exact h.reply)
  next w ready =>
    iterate 2 (split; exact h.reply)
    refine (h.setMap_of_counted fun counted _ => ?_).zeroDrift.reply
    obtain ⟨next, counts, eligible⟩ := counted (by rw [ready_of_readyWafer ready]; nofun)
    exact ⟨next, counts, fun _ => eligible (by rw [ready]; rfl)⟩

theorem takeWaferClose_keepsLaws (h : s.KeepsLaws t) : s.KeepsLaws (takeWaferClose r t) := by
  unfold takeWaferClose
  iterate 3 (split; exact h.reply)
  exact (h.notify.unloadMap rfl).reply

theorem takeResolve_keepsLaws (h : s.KeepsLaws t) : s.KeepsLaws (takeResolve r t) := by
  unfold takeResolve
  iterate 5 (split; exact h.reply)
  split
  · exact h.moveDie.reply
  · exact h.moveDie.reply

theorem takeReadDie_keepsLaws (h : s.KeepsLaws t) : s.KeepsLaws (takeReadDie r t) := by
  unfold takeReadDie
  iterate 4 (split; exact h.reply)
  exact h.reply

/-! ## The track -/

theorem takeStripLoad_keepsLaws (h : s.KeepsLaws t) : s.KeepsLaws (takeStripLoad r t) := by
  unfold takeStripLoad
  iterate 4 (split; exact h.reply)
  exact h.setTrack.reply

theorem takeStripBad_keepsLaws (h : s.KeepsLaws t) : s.KeepsLaws (takeStripBad r t) := by
  unfold takeStripBad
  simp only
  iterate 2 (split; exact h.reply)
  split
  · split
    · exact h.reply
    · exact h.badOnTrack.reply
  · iterate 3 (split; exact h.reply)
    exact h.badInQueue.reply

theorem takeTrackClear_keepsLaws (h : s.KeepsLaws t) : s.KeepsLaws (takeTrackClear r t) := by
  unfold takeTrackClear
  iterate 3 (split; exact h.reply)
  exact h.clearTrack.reply

theorem takeIndexRequest_keepsLaws (h : s.KeepsLaws t) : s.KeepsLaws (takeIndexRequest r t) := by
  unfold takeIndexRequest
  simp only
  iterate 4 (split; exact h.reply)
  exact h.setTrack.reply.drainTest

theorem takeIndexDone_keepsLaws (h : s.KeepsLaws t) : s.KeepsLaws (takeIndexDone r t) := by
  unfold takeIndexDone
  iterate 2 (split; exact h.reply)
  · exact h.reply
  exact h.shift.reply.becomeStill

theorem takeIndexCancel_keepsLaws (h : s.KeepsLaws t) : s.KeepsLaws (takeIndexCancel r t) := by
  unfold takeIndexCancel
  iterate 2 (split; exact h.reply)
  · exact h.reply
  exact h.reply.becomeStill

theorem takeReadSite_keepsLaws (h : s.KeepsLaws t) : s.KeepsLaws (takeReadSite r t) := by
  unfold takeReadSite
  simp only
  iterate 2 (split; exact h.reply)
  exact h.reply

/-! ## Settings -/

theorem settingRange_ordered : ∀ n < 30, (settingRange n).1 ≤ (settingRange n).2 := by decide

/-- A value within its range is its own nearest bound. -/
theorem clampTo_of_mem {lo hi v : Int} (above : lo ≤ v) (below : v ≤ hi) : clampTo lo hi v = v := by
  unfold clampTo
  split
  · omega
  · split <;> omega

theorem clampConfig_ok {n : Nat} {v : Int} (ok : configOk n v = true) : configOk n (clampConfig n v) = true := by
  obtain ⟨nonneg, below⟩ := (configOk_iff n v).mp ok
  refine (configOk_iff n _).mpr ?_
  unfold configMask at below ⊢
  simp only [clampConfig]
  split
  · next attn => rw [if_pos attn] at below; simp; omega
  · next lamp => rw [if_neg lamp] at below; simp; omega

theorem clampConfig_idem (n : Nat) (v : Int) : clampConfig n (clampConfig n v) = clampConfig n v := by
  simp only [clampConfig]
  split <;> simp only [Int.toNat_natCast] <;> omega

/-- What a write stores, it would store again (R169). -/
theorem storedValue_idem (n : Nat) (v : Int) : storedValue n (storedValue n v) = storedValue n v := by
  unfold storedValue
  split
  · exact clampConfig_idem n v
  · next numeric =>
    have ordered := settingRange_ordered n (by simpa [isConfig] using numeric)
    obtain ⟨above, below⟩ := clampTo_bounds ordered v
    exact clampTo_of_mem above below

/-- A write keeps every setting within its range (R169). -/
theorem put_inRange {st : Settings} (h : st.InRange) {n : Nat} (known : settingKnown n = true) {z : Int}
    (ok : isConfig n = true → configOk n z = true) : (st.put n (storedValue n z)).InRange := by
  intro m knownM
  by_cases same : m = n
  · subst same
    obtain ⟨first, last⟩ := (settingKnown_iff m).mp known
    rw [get_put_storedValue st first last z fun config => ok (decide_eq_true config)]
    refine ⟨storedValue_idem m z, fun config => ?_⟩
    rw [storedValue, if_pos config]
    exact clampConfig_ok (ok config)
  · rw [get_put_ne st _ same]
    exact h m knownM

/-- A write of a setting that neither BIN-SET's recount nor DRIFT-MAX's clamping follows. -/
theorem State.KeepsLaws.setSettings (h : s.KeepsLaws t) {st : Settings} (inRange : t.settings.InRange → st.InRange)
    (drift : st.driftMax = t.settings.driftMax) (bins : st.binSet = t.settings.binSet) :
    s.KeepsLaws (t.setSettings st) :=
  h.trans ⟨id, id, id, fun m => m.of_eq rfl rfl rfl rfl rfl bins, inRange, fun k => by
    unfold State.DriftBounded at k ⊢
    rw [← drift] at k
    exact k⟩

/-- A write of BIN-SET recounts the eligible die (R14). -/
theorem State.KeepsLaws.setBinSet (h : s.KeepsLaws t) {st : Settings} (inRange : t.settings.InRange → st.InRange)
    (drift : st.driftMax = t.settings.driftMax) : s.KeepsLaws (t.setSettings st).binSetWritten := by
  have driftKept : t.DriftBounded → (t.setSettings st).DriftBounded := fun k => by
    unfold State.DriftBounded at k ⊢
    rw [← drift] at k
    exact k
  unfold State.binSetWritten
  simp only
  split
  · next none => exact h.trans ⟨id, id, id, fun _ loaded => absurd none loaded, inRange, driftKept⟩
  · next loading =>
    refine h.trans ⟨id, id, id, fun k loaded => ?_, inRange, driftKept⟩
    obtain ⟨next, counts, -⟩ := k loaded
    have phase : t.map.phase = .loading _ := loading
    refine ⟨next, counts, fun ready => ?_⟩
    change t.readyWafer.isSome = true at ready
    simp [State.readyWafer, phase] at ready
  · refine .evalWaferLow (h.trans ⟨id, id, id, fun k loaded => ?_, inRange, driftKept⟩)
    obtain ⟨next, counts, -⟩ := k loaded
    exact ⟨next, counts, fun _ => rfl⟩

/-- A write of DRIFT-MAX clamps the drift (R35). -/
theorem State.KeepsLaws.setDriftMax (h : s.KeepsLaws t) {st : Settings} (inRange : t.settings.InRange → st.InRange)
    (bins : st.binSet = t.settings.binSet) : s.KeepsLaws (t.setSettings st).clampDrifts :=
  h.trans ⟨id, id, id, fun m => m.of_eq rfl rfl rfl rfl rfl bins, inRange,
    fun _ => ⟨clampDrift_bounded .., clampDrift_bounded ..⟩⟩

theorem State.KeepsLaws.writeSetting (h : s.KeepsLaws t) {n : Nat} {z : Int} (known : settingKnown n = true)
    (ok : isConfig n = true → configOk n z = true) : s.KeepsLaws (t.writeSetting n z) := by
  have inRange : t.settings.InRange → (t.settings.put n (storedValue n z)).InRange := fun k => put_inRange k known ok
  unfold State.writeSetting State.settingWritten
  split
  · next binSet => exact h.setBinSet inRange (put_keeps_driftMax _ _ (by omega))
  · next notBins =>
    split
    · next driftMax => exact h.setDriftMax inRange (put_keeps_binSet _ _ notBins)
    · next notDrift =>
      have written := h.setSettings inRange (put_keeps_driftMax _ _ notDrift) (put_keeps_binSet _ _ notBins)
      split
      · exact written.evalWaferLow
      · split
        · exact written.servePlacers
        · exact written

theorem takeSet_keepsLaws (h : s.KeepsLaws t) : s.KeepsLaws (takeSet r t) := by
  unfold takeSet
  simp only
  split
  · exact h.reply
  · split
    · exact h.reply
    · next known =>
      split
      · exact h.reply
      · next accepted =>
        refine (h.writeSetting (by simpa using known) fun config => ?_).reply
        simp only [State.setRefusal, config, Bool.true_and] at accepted
        split at accepted
        · cases accepted
        · split at accepted
          · cases accepted
          · simpa using accepted

theorem takeGet_keepsLaws (h : s.KeepsLaws t) : s.KeepsLaws (takeGet r t) := by
  unfold takeGet
  simp only
  iterate 2 (split; exact h.reply)
  exact h.reply

/-! ## Line modes -/

theorem State.KeepsLaws.enterMode (h : s.KeepsLaws t) {m : LineMode} (started : m ≠ .init) :
    s.KeepsLaws (t.enterMode r m) := (h.changeMode started).reply

theorem takeStart_keepsLaws (h : s.KeepsLaws t) : s.KeepsLaws (takeStart r t) := by
  unfold takeStart
  iterate 3 (split; exact h.reply)
  exact h.enterMode nofun

theorem takeDrain_keepsLaws (h : s.KeepsLaws t) : s.KeepsLaws (takeDrain r t) := by
  unfold takeDrain
  split
  · exact h.reply
  · split
    · exact h.enterMode nofun
    · exact h.reply

theorem takeResume_keepsLaws (h : s.KeepsLaws t) : s.KeepsLaws (takeResume r t) := by
  unfold takeResume
  split
  · exact h.reply
  · split
    · exact h.enterMode nofun
    · exact h.reply

theorem takeHalt_keepsLaws (h : s.KeepsLaws t) : s.KeepsLaws (takeHalt r t) := by
  unfold takeHalt
  split
  · exact h.reply
  · split
    · exact (h.changeMode (m := .halt) nofun).requestHalts.reply
    · exact h.reply

theorem takeStop_keepsLaws (h : s.KeepsLaws t) : s.KeepsLaws (takeStop r t) := by
  unfold takeStop
  split
  · exact h.reply
  · split
    · split
      · exact h.enterMode nofun
      · exact h.reply
    · exact h.reply

/-! ## Reading, the lamp and recovery -/

theorem takeReadStatus_keepsLaws (h : s.KeepsLaws t) : s.KeepsLaws (takeReadStatus r t) := by
  unfold takeReadStatus
  split
  · exact h.reply
  · split <;> exact h.reply

theorem takeReadClaims_keepsLaws (h : s.KeepsLaws t) : s.KeepsLaws (takeReadClaims r t) := by
  unfold takeReadClaims
  split
  · exact h.reply
  · split <;> exact h.reply

theorem takeReadStation_keepsLaws (h : s.KeepsLaws t) : s.KeepsLaws (takeReadStation r t) := by
  unfold takeReadStation
  split <;> exact h.reply

theorem takeReadLog_keepsLaws (h : s.KeepsLaws t) : s.KeepsLaws (takeReadLog r t) := by
  unfold takeReadLog
  simp only
  iterate 3 (split; exact h.reply)
  exact h.removeRecords.reply.wakeReserves

theorem takeReadNotices_keepsLaws (h : s.KeepsLaws t) : s.KeepsLaws (takeReadNotices r t) := by
  unfold takeReadNotices
  simp only
  split
  · exact h.reply
  · split
    · exact h.reply
    · next inRange =>
      split
      · exact h.reply
      · exact (h.removeNotices (by omega)).reply

theorem takeLampAck_keepsLaws (h : s.KeepsLaws t) : s.KeepsLaws (takeLampAck r t) := by
  unfold takeLampAck
  split
  · exact h.reply
  · refine .reply (h.same ?_)
    exact ⟨rfl, rfl, rfl, rfl, rfl, rfl⟩

theorem State.KeepsLaws.disableHead (h : s.KeepsLaws t) : s.KeepsLaws (t.disableHead x) := by
  unfold State.disableHead
  split
  · refine .causeReaches (h.same ?_)
    exact ⟨rfl, rfl, rfl, rfl, rfl, rfl⟩
  · exact h

theorem takeHeadEnable_keepsLaws (h : s.KeepsLaws t) : s.KeepsLaws (takeHeadEnable r t) := by
  unfold takeHeadEnable
  iterate 2 (split; exact h.reply)
  split
  · exact h.disableHead.reply
  · split
    · exact h.enableHead.reply
    · exact h.reply

theorem takeForfeit_keepsLaws (h : s.KeepsLaws t) : s.KeepsLaws (takeForfeit r t) := by
  unfold takeForfeit
  iterate 4 (split; exact h.reply)
  exact h.removeClaim.wakeReserves.moveDie.notify.reply

theorem takeAbort_keepsLaws (h : s.KeepsLaws t) {p : Port} : s.KeepsLaws (takeAbort p r t) := by
  unfold takeAbort
  split
  · exact h.reply
  · exact h.enterAbort.reply

theorem takeClearAbort_keepsLaws (h : s.KeepsLaws t) {p : Port} : s.KeepsLaws (takeClearAbort p r t) := by
  unfold takeClearAbort
  split
  · exact h.reply
  · exact h.setLink.reply

theorem takeCancel_keepsLaws (h : s.KeepsLaws t) {p : Port} : s.KeepsLaws (takeCancel p r t) := by
  unfold takeCancel
  iterate 2 (split; exact h.reply)
  unfold State.cancelHeld
  split
  · exact h.acceptCancel
  · split
    · split
      · exact h.removeWaiter.acceptCancel
      · exact h.reply
    · split
      · exact h.removePlacer.acceptCancel
      · exact h.acceptCancel

theorem takePortStatus_keepsLaws (h : s.KeepsLaws t) {p : Port} : s.KeepsLaws (takePortStatus p r t) := by
  unfold takePortStatus
  split <;> exact h.reply

/-! ## The taking of a request -/

theorem onHead_keepsLaws (h : s.KeepsLaws t) {p : Port} {f : Head → Request → State → State}
    (k : ∀ x, s.KeepsLaws (f x r t)) : s.KeepsLaws (onHead p r f t) := by
  unfold onHead
  split
  · exact h.reply
  · exact k _

theorem takeCommand_keepsLaws (h : s.KeepsLaws t) (p : Port) (c : Command) (r : Request) :
    s.KeepsLaws (takeCommand p c r t) := by
  cases c with
  | cancel => exact takeCancel_keepsLaws h
  | portStatus => exact takePortStatus_keepsLaws h
  | abort => exact takeAbort_keepsLaws h
  | clearAbort => exact takeClearAbort_keepsLaws h
  | reserve => exact onHead_keepsLaws h fun _ => takeReserve_keepsLaws h
  | release => exact onHead_keepsLaws h fun _ => takeRelease_keepsLaws h
  | pick => exact onHead_keepsLaws h fun _ => takePick_keepsLaws h
  | picked => exact onHead_keepsLaws h fun _ => takePicked_keepsLaws h
  | pickFail => exact onHead_keepsLaws h fun _ => takePickFail_keepsLaws h
  | place => exact onHead_keepsLaws h fun _ => takePlace_keepsLaws h
  | bonded => exact onHead_keepsLaws h fun _ => takeBonded_keepsLaws h
  | bondFail => exact onHead_keepsLaws h fun _ => takeBondFail_keepsLaws h
  | discard => exact onHead_keepsLaws h fun _ => takeDiscard_keepsLaws h
  | claims => exact onHead_keepsLaws h fun _ => takeClaims_keepsLaws h
  | awaitOrder => exact takeAwaitOrder_keepsLaws h
  | presented => exact takePresented_keepsLaws h
  | presentFail => exact takePresentFail_keepsLaws h
  | nextSite => exact takeNextSite_keepsLaws h
  | dispensed => exact takeDispensed_keepsLaws h
  | dispenseFail => exact takeDispenseFail_keepsLaws h
  | set => exact takeSet_keepsLaws h
  | get => exact takeGet_keepsLaws h
  | start => exact takeStart_keepsLaws h
  | drain => exact takeDrain_keepsLaws h
  | resume => exact takeResume_keepsLaws h
  | halt => exact takeHalt_keepsLaws h
  | stop => exact takeStop_keepsLaws h
  | reset => exact h.reply
  | mapOpen => exact takeMapOpen_keepsLaws h
  | mapDie => exact takeMapDie_keepsLaws h
  | mapClose => exact takeMapClose_keepsLaws h
  | mapAbandon => exact takeMapAbandon_keepsLaws h
  | mapAlign => exact takeMapAlign_keepsLaws h
  | waferClose => exact takeWaferClose_keepsLaws h
  | resolve => exact takeResolve_keepsLaws h
  | readDie => exact takeReadDie_keepsLaws h
  | stripLoad => exact takeStripLoad_keepsLaws h
  | stripBad => exact takeStripBad_keepsLaws h
  | trackClear => exact takeTrackClear_keepsLaws h
  | indexRequest => exact takeIndexRequest_keepsLaws h
  | indexDone => exact takeIndexDone_keepsLaws h
  | indexCancel => exact takeIndexCancel_keepsLaws h
  | readSite => exact takeReadSite_keepsLaws h
  | readStatus => exact takeReadStatus_keepsLaws h
  | readClaims => exact takeReadClaims_keepsLaws h
  | readStation => exact takeReadStation_keepsLaws h
  | readLog => exact takeReadLog_keepsLaws h
  | readNotices => exact takeReadNotices_keepsLaws h
  | headEnable => exact takeHeadEnable_keepsLaws h
  | forfeit => exact takeForfeit_keepsLaws h
  | lampAck => exact takeLampAck_keepsLaws h

theorem State.KeepsLaws.take (h : s.KeepsLaws t) (p : Port) (r : Request) : s.KeepsLaws (take p r t) := by
  have fresh : s.KeepsLaws (t.clearFresh p) := h.setLink
  unfold Machine.take
  simp only
  split
  · exact fresh.reply
  · split
    · exact fresh.reply
    · exact takeCommand_keepsLaws fresh ..

theorem State.KeepsLaws.takeNow (h : s.KeepsLaws t) (p : Port) (r : Request) : s.KeepsLaws (takeNow p r t) := by
  have fresh : s.KeepsLaws (t.clearFresh p) := h.setLink
  unfold Machine.takeNow
  simp only
  split
  · exact fresh.reply
  · exact takeCommand_keepsLaws fresh ..

theorem State.KeepsLaws.chooseAmong (h : s.KeepsLaws t) {α : Type} (l : List α) : s.KeepsLaws (t.chooseAmong l) :=
  h.same (by simp [State.SameBooks])

theorem State.KeepsLaws.takeOldest (h : s.KeepsLaws t) (p : Port) : s.KeepsLaws (t.takeOldest p) := by
  unfold State.takeOldest
  split
  · exact h
  · exact h.setLink.take ..

theorem State.KeepsLaws.settleFor (n : Nat) (h : s.KeepsLaws t) : s.KeepsLaws (settleFor n t) := by
  induction n generalizing t with
  | zero => exact h
  | succ n ih =>
    unfold Machine.settleFor
    split
    · exact h
    · exact ih ((h.chooseAmong _).takeOldest _)

theorem State.KeepsLaws.settle (h : s.KeepsLaws t) : s.KeepsLaws t.settle := h.settleFor _

end

end Sys2Proof.Machine
end

section
/-! THEOREMS. The laws of the report unit, the die map, the settings and the drift over a step (O7 to O10). Outside INIT and the
resets every event is a chain of the operations of `KeepsLaws`; in INIT an event leaves the map unloaded and the request
queues empty. -/

namespace Sys2Proof.Machine

open Sys2Proof

section

variable {s t : State}

/-! ## Events in INIT -/

/-- An event that, with no map loaded and no request waiting, loads no map and lets no request wait. -/
structure State.Quiet (s t : State) : Prop where
  empty : (s.map.phase = .none ∧ ∀ p, (s.link p).requests = []) → t.map.phase = .none ∧ ∀ p, (t.link p).requests = []

theorem State.Quiet.refl (s : State) : s.Quiet s := ⟨id⟩

theorem State.Quiet.trans {u : State} (h : s.Quiet t) (k : t.Quiet u) : s.Quiet u := ⟨k.empty ∘ h.empty⟩

theorem State.Quiet.of_follows (phase : t.map.phase = s.map.phase) (f : s.Follows t) : s.Quiet t := by
  refine ⟨fun ⟨unloaded, empty⟩ => ⟨phase.trans unloaded, fun p => ?_⟩⟩
  rcases (f.link p).requests with same | flushed
  · exact same.trans (empty p)
  · exact flushed

theorem State.Quiet.of_links (phase : t.map.phase = s.map.phase) (links : t.links = s.links) : s.Quiet t :=
  .of_follows phase (.of_links links)

theorem State.Quiet.of_setLink {p : Port} {l : Link} (h : l.requests = (s.link p).requests) : s.Quiet (s.setLink p l) := by
  refine ⟨fun ⟨unloaded, empty⟩ => ⟨unloaded, fun q => ?_⟩⟩
  by_cases hq : q = p
  · subst hq
    rw [setLink_link, h, empty]
  · rw [setLink_link_ne _ _ hq, empty]

/-- With no request waiting there is nothing to take (R181). -/
theorem State.Quiet.settle (h : s.Quiet t) : s.Quiet t.settle := by
  refine ⟨fun e => ?_⟩
  obtain ⟨unloaded, empty⟩ := h.empty e
  rw [settle_of_empty empty]
  exact ⟨unloaded, empty⟩

theorem State.Quiet.causeReaches (h : s.Quiet t) {p : Port} {c : AbortCause} {b : Bool} :
    s.Quiet (t.causeReaches p c b) := by
  refine h.trans ?_
  unfold State.causeReaches
  split
  · exact .of_setLink rfl
  · exact .of_follows (by simp) (enterAbort_follows ..)

theorem State.Quiet.answerHeld (h : s.Quiet t) {p : Port} {code : ReplyCode} {ws : List Word} :
    s.Quiet (t.answerHeld p code ws) :=
  h.trans (.of_follows (by simp) (answerHeld_follows ..))

theorem State.Quiet.answerMode (h : s.Quiet t) {p : Port} {c : Command} : s.Quiet (t.answerMode p c) :=
  h.trans (.of_follows (by simp) (answerMode_follows ..))

/-- An expiry loads no map and lets no request wait. -/
theorem expire_quiet (s : State) (t : Timer) : s.Quiet (s.expire t) := by
  cases t <;> simp only [State.expire]
  case presentation =>
    refine .causeReaches (.of_links ?_ ?_) <;> rfl
  case grant h =>
    refine .causeReaches (.of_links ?_ ?_) <;> rfl
  case placeHold h =>
    unfold State.expirePlaceHold
    split
    · exact .of_links rfl rfl
    · split
      · exact .causeReaches (.of_links (by simp) (by simp))
      · exact .of_links rfl rfl
  case dispenseHold =>
    refine .causeReaches (.of_links ?_ ?_) <;> rfl
  case potLife strip column row =>
    unfold State.expirePotLife
    split
    · exact .trans (.of_links (by simp) (by simp)) (.of_follows (by simp) (serveNextSite_follows _))
    · exact .of_links (by simp) (by simp)
    · exact .refl s
  case wait p =>
    unfold State.expireWait
    split
    · exact (State.Quiet.refl s).answerHeld
    · split
      · exact .answerHeld (.of_links (by simp) (by simp))
      · exact (State.Quiet.refl s).answerHeld
  case age i => exact .of_links rfl rfl

/-! ## The laws over an event -/

/-- What O7 to O10 state of a step from `s` to `t`. -/
structure State.KeepsBooks (s t : State) : Prop where
  logRoom : s.LogRoom → t.LogRoom
  notices : s.NoticesBounded → t.NoticesBounded
  map : s.InitEmpty → s.MapCounted → t.InitEmpty ∧ t.MapCounted
  inRange : s.settings.InRange → t.settings.InRange
  drift : s.DriftBounded → t.DriftBounded

theorem State.KeepsBooks.of_quiet (h : s.KeepsLaws t) (quiet : s.mode = .init → s.Quiet t) : s.KeepsBooks t where
  logRoom := h.logRoom
  notices := h.notices
  map empty counted := by
    refine ⟨fun init => ?_, h.counted counted⟩
    have before : s.mode = .init := Classical.not_not.mp fun started => h.started started init
    exact (quiet before).empty (empty before)
  inRange := h.inRange
  drift := h.drift

/-- An event of a part that has left INIT. -/
theorem State.KeepsBooks.of_started (h : s.KeepsLaws t) (started : s.mode ≠ .init) : s.KeepsBooks t :=
  .of_quiet h fun init => absurd init started

theorem State.KeepsBooks.refl (s : State) : s.KeepsBooks s := .of_quiet (.refl s) fun _ => .refl s

theorem State.KeepsBooks.trans {u : State} (h : s.KeepsBooks t) (k : t.KeepsBooks u) : s.KeepsBooks u where
  logRoom := k.logRoom ∘ h.logRoom
  notices := k.notices ∘ h.notices
  map empty counted :=
    have ⟨empty', counted'⟩ := h.map empty counted
    k.map empty' counted'
  inRange := k.inRange ∘ h.inRange
  drift := k.drift ∘ h.drift

/-- A change of one link unit that leaves its request queue alone. -/
theorem State.KeepsBooks.of_setLink {p : Port} {l : Link} (h : l.requests = (s.link p).requests) :
    s.KeepsBooks (s.setLink p l) :=
  .of_quiet (State.KeepsLaws.refl s).setLink fun _ => .of_setLink h

/-- A change of fields that no law reads. -/
theorem State.KeepsBooks.of_same (h : s.SameBooks t) (links : t.links = s.links) : s.KeepsBooks t :=
  .of_quiet h.keepsLaws fun _ => .of_links (by rw [h.2.2.1]) links

/-! ## Resets and the clock -/

/-- After a soft reset the lists and queues are empty, no map is loaded and the drift is 0 (R171). -/
theorem softReset_keepsLaws (s : State) : s.KeepsLaws s.softReset where
  started _ := nofun
  logRoom _ := Nat.zero_le _
  notices _ := ⟨Nat.zero_le _, nofun⟩
  counted _ loaded := absurd rfl loaded
  inRange := id
  drift _ := ⟨Nat.zero_le _, Nat.zero_le _⟩

theorem heldInReset_keepsBooks (s : State) (supply pin : Bool) : s.KeepsBooks (s.heldInReset supply pin) where
  logRoom _ := Nat.zero_le _
  notices _ := ⟨Nat.zero_le _, nofun⟩
  map _ _ := ⟨fun _ => ⟨rfl, fun p => by cases p <;> rfl⟩, fun loaded => absurd rfl loaded⟩
  inRange _ := default_inRange
  drift _ := ⟨Nat.zero_le _, Nat.zero_le _⟩

theorem release_keepsBooks (s : State) (k : ResetKind) : s.KeepsBooks (s.release k) := by
  refine .of_same ?_ (release_links s k)
  unfold State.release
  cases k <;> simp only <;> split <;> exact ⟨rfl, rfl, rfl, rfl, rfl, rfl⟩

/-- INIT ends with no map loaded (R161). -/
theorem completeInit_keepsBooks (s : State) : s.KeepsBooks s.completeInit := by
  unfold State.completeInit
  split
  · next init =>
    simp only [Bool.and_eq_true, decide_eq_true_eq] at init
    exact ⟨id, id, fun empty _ => ⟨nofun, fun loaded => absurd (empty init.1).1 loaded⟩, id, id⟩
  · exact .refl s

theorem endInit_keepsBooks (s : State) : s.KeepsBooks s.endInit := by
  unfold State.endInit
  split
  · exact completeInit_keepsBooks s
  · exact .refl s

/-! ## Expiries and requested events -/

theorem State.KeepsLaws.losePlaced (h : s.KeepsLaws t) {x : Head} {a : Assigned} {st : Stamp} :
    s.KeepsLaws (t.losePlaced x a st) := by
  unfold State.losePlaced
  exact h.spoil.moveDie.removeClaim.notify

theorem expire_keepsLaws (s : State) (t : Timer) : s.KeepsLaws (s.expire t) := by
  have h := State.KeepsLaws.refl s
  cases t with
  | presentation => exact h.setArbiter.causeReaches
  | grant x => exact h.setArbiter.causeReaches
  | placeHold x =>
    show s.KeepsLaws (s.expirePlaceHold x)
    unfold State.expirePlaceHold
    split
    · exact h.endAssignment
    · split
      · exact h.losePlaced.endAssignment.causeReaches
      · exact h.endAssignment
  | dispenseHold =>
    refine .causeReaches (h.same ?_)
    exact ⟨rfl, rfl, rfl, rfl, rfl, rfl⟩
  | potLife strip column row =>
    show s.KeepsLaws (s.expirePotLife strip column row)
    unfold State.expirePotLife
    split
    · exact h.spoil.serveNextSite
    · exact h.setSite
    · exact h
  | wait p =>
    show s.KeepsLaws (s.expireWait p)
    unfold State.expireWait
    split
    · exact h.answerHeld
    · split
      · exact h.removePlacer.answerHeld
      · exact h.answerHeld
  | age i => exact h.setCapture

theorem expire_settle_keepsBooks (s : State) (t : Timer) : s.KeepsBooks (s.expire t).settle :=
  .of_quiet (expire_keepsLaws s t).settle fun _ => (expire_quiet s t).settle

theorem takeExpiry_keepsBooks (s : State) (t : Timer) : s.KeepsBooks (s.takeExpiry t) := by
  unfold State.takeExpiry
  split
  · exact expire_settle_keepsBooks s t
  · exact .refl s

theorem chooseAmong_keepsBooks {α : Type} (s : State) (l : List α) : s.KeepsBooks (s.chooseAmong l) :=
  .of_same (by simp [State.SameBooks]) (chooseAmong_links s l)

theorem discard_keepsBooks (s : State) (p : Port) : s.KeepsBooks (s.discard p) := .of_setLink rfl

theorem takeDueFor_keepsBooks (n : Nat) (s : State) : s.KeepsBooks (takeDueFor n s) := by
  induction n generalizing s with
  | zero => exact .refl s
  | succ n ih =>
    unfold takeDueFor
    split
    · exact .refl s
    · exact ((chooseAmong_keepsBooks s _).trans (expire_settle_keepsBooks ..)).trans (ih _)

theorem lineTimeStep_keepsBooks (s : State) : s.KeepsBooks s.lineTimeStep := by
  unfold State.lineTimeStep
  split
  · exact .refl s
  · have taken : s.KeepsBooks s.takeDue := takeDueFor_keepsBooks ..
    exact (taken.trans (endInit_keepsBooks _)).trans (.of_same ⟨rfl, rfl, rfl, rfl, rfl, rfl⟩ rfl)

theorem takeHaltEntry_keepsBooks (s : State) (p : Port) : s.KeepsBooks (s.takeHaltEntry p) := by
  unfold State.takeHaltEntry
  split
  · exact .refl s
  · refine .of_quiet (State.KeepsLaws.refl s).setLink.causeReaches.settle fun _ => .settle (.causeReaches (.of_setLink ?_))
    rfl

/-- A report taken answers held requests (R164). -/
theorem reported_keepsBooks {s t : State} (h : s.SameBooks t) (links : t.links = s.links) :
    s.KeepsLaws t ∧ s.Quiet t :=
  ⟨h.keepsLaws, .of_links (by rw [h.2.2.1]) links⟩

theorem takeReport_keepsBooks (s : State) (d : ReportTo) : s.KeepsBooks (s.takeReport d) := by
  cases d
  · show s.KeepsBooks s.reportClaimUnit
    unfold State.reportClaimUnit
    split
    · exact .refl s
    · next n _ =>
      obtain ⟨laws, quiet⟩ := reported_keepsBooks (s := s) (t := { s with reports := { s.reports with claimUnit := n } })
        ⟨rfl, rfl, rfl, rfl, rfl, rfl⟩ rfl
      exact .of_quiet laws.answerMode.answerMode.settle fun _ => quiet.answerMode.answerMode.settle
  · show s.KeepsBooks s.reportDispenser
    unfold State.reportDispenser
    split
    · exact .refl s
    · next n _ =>
      obtain ⟨laws, quiet⟩ := reported_keepsBooks (s := s)
        (t := { s with reports := { s.reports with dispenseSequencer := n } }) ⟨rfl, rfl, rfl, rfl, rfl, rfl⟩ rfl
      exact .of_quiet laws.answerMode.settle fun _ => quiet.answerMode.settle

/-! ## Frames -/

theorem State.KeepsLaws.receive (h : s.KeepsLaws t) (p : Port) (r : Request) : s.KeepsLaws (t.receive p r) := by
  unfold State.receive
  split
  · exact h.trans (softReset_keepsLaws t)
  · split
    · split
      · exact (h.takeNow p r).settle
      · exact h.setLink
    · split
      · exact h.setLink.settle
      · exact h.setLink

theorem endRequest_keepsBooks (s : State) (p : Port) (bytes : List Byte) (extra : Nat) :
    s.KeepsBooks (s.endRequest p bytes extra) := by
  have h := State.KeepsLaws.refl s
  unfold State.endRequest
  simp only
  split
  · exact .trans (.of_setLink (Link.SameQueues.requests (endFrame_sameQueues ..))) (discard_keepsBooks ..)
  · next started =>
    split
    · exact .of_started h.setLink.setLink started
    · exact .of_started (h.setLink.receive ..) started

theorem endFetch_keepsBooks (s : State) (p : Port) (n : Nat) : s.KeepsBooks (s.endFetch p n) := by
  unfold State.endFetch
  simp only
  split
  · exact .trans (.of_setLink (Link.SameQueues.requests (endFrame_sameQueues ..))) (discard_keepsBooks ..)
  · next started => exact .of_started (State.KeepsLaws.refl s).setLink.settle started

theorem endFrame_keepsBooks (s : State) (p : Port) (bytes : List Byte) (extra : Nat) :
    s.KeepsBooks (s.endFrame p bytes extra) := by
  unfold State.endFrame
  split
  · exact .of_setLink rfl
  · split
    · exact .of_setLink rfl
    · split
      · exact endFetch_keepsBooks ..
      · exact endRequest_keepsBooks ..

theorem endFetchFrame_keepsBooks (s : State) (p : Port) (n : Nat) : s.KeepsBooks (s.endFetchFrame p n) := by
  unfold State.endFetchFrame
  split
  · exact .of_setLink rfl
  · exact endFetch_keepsBooks ..

theorem beginFrame_keepsBooks (s : State) (p : Port) : s.KeepsBooks (s.beginFrame p) := by
  unfold State.beginFrame
  split <;> exact .of_setLink rfl

theorem fixReply_keepsBooks (s : State) (p : Port) : s.KeepsBooks (s.fixReply p) := by
  unfold State.fixReply
  split
  · exact .refl s
  · exact .of_setLink rfl

end

/-! ## A step -/

/-- Every command keeps the laws of O7 to O10. -/
theorem exec_keepsBooks {c : Instr} {s t : State} (h : exec c s = .next t) : s.KeepsBooks t := by
  cases row : c.requestOf with
  | some x =>
    rw [exec_of_requestOf row] at h
    cases h
    exact .trans (beginFrame_keepsBooks ..) (endFrame_keepsBooks ..)
  | none =>
    cases c with
    | powerOnReset => cases h; exact heldInReset_keepsBooks ..
    | pinReset => cases h; exact heldInReset_keepsBooks ..
    | resetRelease k => cases h; exact release_keepsBooks s k
    | initComplete => cases h; exact completeInit_keepsBooks s
    | lineTimeStep => cases h; exact lineTimeStep_keepsBooks s
    | captureEdge i e => cases h; exact .of_same ⟨rfl, rfl, rfl, rfl, rfl, rfl⟩ rfl
    | captureAgeLimit i => cases h; exact takeExpiry_keepsBooks ..
    | presentationTimerExpiry => cases h; exact takeExpiry_keepsBooks ..
    | grantTimerExpiry => cases h; exact takeExpiry_keepsBooks ..
    | placeHoldExpiry => cases h; exact takeExpiry_keepsBooks ..
    | dispenseHoldExpiry => cases h; exact takeExpiry_keepsBooks ..
    | potLifeExpiry => cases h; exact takeExpiry_keepsBooks ..
    | heldRequestWaitExpiry => cases h; exact takeExpiry_keepsBooks ..
    | requestFrame p e =>
      cases e with
      | selected => cases h; exact .of_setLink rfl
      | begins => cases h; exact beginFrame_keepsBooks ..
      | ends => cases h; exact endFrame_keepsBooks ..
    | fetch p e =>
      cases e with
      | selected => cases h; exact .of_setLink rfl
      | begins => cases h; exact beginFrame_keepsBooks ..
      | firstByte => cases h; exact fixReply_keepsBooks ..
      | ends => cases h; exact endFetchFrame_keepsBooks ..
    | portAbortEntry p => cases h; exact takeHaltEntry_keepsBooks ..
    | leavingRunReport d => cases h; exact takeReport_keepsBooks ..
    | _ => cases row

theorem step_keepsBooks {s t : State} (h : step s = .next t) : s.KeepsBooks t :=
  step_induction (R := State.KeepsBooks) .refl
    (fun _ rest s _ h => State.KeepsBooks.trans (t := s.withPending rest) (.of_same ⟨rfl, rfl, rfl, rfl, rfl, rfl⟩ rfl)
      (exec_keepsBooks h)) h

/-- Settles O7: a claim is added only while the log has room for its record, and a record replaces a claim. -/
theorem stepKeepsLogRoomForEveryClaim : Obligations.StepKeepsLogRoomForEveryClaim :=
  fun _ _ room next => (step_keepsBooks next).logRoom room

/-- Settles O8: `notify` and `removeNotices` are the only operations on the notice queue. -/
theorem stepKeepsNoticeQueueBounded : Obligations.StepKeepsNoticeQueueBounded :=
  fun _ _ bounded next => (step_keepsBooks next).notices bounded

/-- Settles O9: every transition of die state moves its counts, and INIT takes no request. -/
theorem stepKeepsDieCountsTrue : Obligations.StepKeepsDieCountsTrue :=
  fun _ _ empty counted next => (step_keepsBooks next).map empty counted

/-- Settles O10: a write stores a value in range, and the drift is clamped whenever it or its bound changes. -/
theorem stepKeepsSettingsAndDriftInRange : Obligations.StepKeepsSettingsAndDriftInRange :=
  fun _ _ inRange bounded next => ⟨(step_keepsBooks next).inRange inRange, (step_keepsBooks next).drift bounded⟩

end Sys2Proof.Machine
end

section
/-! THEOREMS. Resets, line time and capture (O11 to O15). -/

namespace Sys2Proof.Machine

open Sys2Proof

/-! ## The release of a reset and the end of INIT -/

/-- An input that is not low as a reset is released records no edge until it has gone low (R137). -/
theorem atRelease_eq (l : PinLevel) : l.atRelease = if l = .low then .low else .high := by cases l <;> rfl

/-- The release of the last cause of reset (R137, R161). -/
theorem release_of_last {s : State} {k : ResetKind}
    (last : k = .powerOn ∧ s.supplyLow = true ∧ s.resetLow = false ∨ k = .pin ∧ s.supplyLow = false ∧ s.resetLow = true) :
    s.release k = { s with
      supplyLow := false
      resetLow := false
      capture := s.capture.map fun c => { c with pin := if c.pin = .low then .low else .high } } := by
  rcases last with ⟨rfl, supply, pin⟩ | ⟨rfl, supply, pin⟩ <;>
    simp [State.release, State.inReset, supply, pin, atRelease_eq]

/-- A release that leaves the other cause in force, or that releases a cause not in force, releases nothing else. -/
theorem release_powerOn {s : State} (h : s.supplyLow = false ∨ s.resetLow = true) :
    s.release .powerOn = { s with supplyLow := false } := by
  rcases h with h | h <;> simp [State.release, State.inReset, h]

theorem release_pin {s : State} (h : s.resetLow = false ∨ s.supplyLow = true) :
    s.release .pin = { s with resetLow := false } := by
  rcases h with h | h <;> simp [State.release, State.inReset, h]

theorem completeInit_of_init {s : State} (init : s.mode = .init) (running : s.inReset = false) :
    s.completeInit = { s with mode := .setup, map := { s.map with table := [], bitmap := [] } } := by
  simp [State.completeInit, init, running]

theorem completeInit_of_not {s : State} (h : s.mode ≠ .init ∨ s.inReset = true) : s.completeInit = s := by
  rcases h with h | h <;> simp [State.completeInit, h]

/-- Settles O11: each command by the causes of reset that stand and the line mode. -/
theorem resetCommandsHoldReleaseAndInitialise : Obligations.ResetCommandsHoldReleaseAndInitialise := by
  refine fun s => ⟨fun _ _ => rfl, rfl, rfl, fun supply pin => ⟨?_, ?_⟩, fun supply pin => ?_, fun supply pin => ?_,
    fun supply => ?_, fun pin => ?_, fun init running => congrArg Host.Outcome.next (completeInit_of_init init running),
    fun h => congrArg Host.Outcome.next (completeInit_of_not h)⟩
  · exact congrArg Host.Outcome.next (release_powerOn (.inr pin))
  · exact congrArg Host.Outcome.next (release_pin (.inr supply))
  · refine congrArg Host.Outcome.next ((release_of_last (.inl ⟨rfl, supply, pin⟩)).trans ?_)
    rw [pin]
  · refine congrArg Host.Outcome.next ((release_of_last (.inr ⟨rfl, supply, pin⟩)).trans ?_)
    rw [supply]
  · refine congrArg Host.Outcome.next ((release_powerOn (.inl supply)).trans ?_)
    rw [← supply]
  · refine congrArg Host.Outcome.next ((release_pin (.inl pin)).trans ?_)
    rw [← pin]

/-! ## RESET -/

/-- RESET with no words resets the part, whatever the cell port holds or owes (R186). -/
theorem receive_reset (s : State) (tag : Byte) : s.receive .cell ⟨Command.reset.code, tag, []⟩ = s.softReset := by
  simp [State.receive, isSoftReset]

/-- An immediate request other than a RESET is taken under its room check (R183). -/
theorem receive_immediate {s : State} {p : Port} {r : Request} (imm : p.isImmediate r.code = true)
    (other : isSoftReset p r = false) (room : (s.link p).hasRoom = true) : s.receive p r = (takeNow p r s).settle := by
  simp [State.receive, other, imm, room]

/-- An immediate request is taken in the event of its arrival, and then what its answer lets be taken (R183). -/
theorem arrive_immediate {s : State} {p : Port} {r : Request} {c : Command} (running : s.inReset = false)
    (started : s.mode ≠ .init) (room : (s.link p).hasRoom = true)
    (fits : r.words.length ≤ 24) (imm : p.isImmediate r.code = true) (role : p.command r.code = some c)
    (other : isSoftReset p r = false) : s.arrive p r = (takeCommand p c r (s.accepted p r)).settle := by
  have code : r.code ≠ 0 := code_of_command role ▸ c.code_ne_zero
  have roomLeft : ((s.framed p r).link p).hasRoom = true := by rw [framed_link]; exact room
  have taken : takeNow p r (s.framed p r) = takeCommand p c r (s.accepted p r) := by
    simp [takeNow, role, State.accepted]
  rw [arrive_eq running started fits code, receive_immediate imm other roomLeft, taken]

theorem hasRoom_of_open {s : State} {p : Port} (o : s.Open p) : (s.link p).hasRoom = true := by
  simpa [Link.hasRoom, o.free] using o.room

/-- A reply leaves the request queues as they are. -/
theorem reply_requests (s : State) (p q : Port) (tag : Byte) (code : ReplyCode) (ws : List Word) :
    ((s.reply p tag code ws).link q).requests = (s.link q).requests := by
  by_cases hq : q = p
  · subst hq; rw [reply_link]
  · rw [reply_link_ne _ _ _ _ hq]

theorem accepted_requests (s : State) (p q : Port) (r : Request) :
    ((s.accepted p r).link q).requests = (s.link q).requests := by
  by_cases hq : q = p
  · subst hq; rw [accepted_link]
  · rw [accepted_link_ne _ _ hq]

theorem answered_requests (s : State) (p q : Port) (r : Request) (code : ReplyCode) (ws : List Word) :
    ((s.answered p r code ws).link q).requests = (s.link q).requests := by
  rw [State.answered, reply_requests, accepted_requests]

/-- An answer with no request waiting lets nothing more be taken. -/
theorem settle_answered {s : State} (empty : ∀ q, (s.link q).requests = []) (p : Port) (r : Request) (code : ReplyCode)
    (ws : List Word) : (s.answered p r code ws).settle = s.answered p r code ws :=
  settle_of_empty fun q => (answered_requests ..).trans (empty q)

/-- Settles O12: RESET without words is the soft reset of the framed state; with words it fails its word count. -/
theorem resetEmptiesTheWorkAndKeepsTheSettings : Obligations.ResetEmptiesTheWorkAndKeepsTheSettings := by
  refine fun s tag => ⟨fun running started => ?_, fun words some fits o => ?_⟩
  · have arrived : s.request .cell .reset tag [] = (s.framed .cell ⟨Command.reset.code, tag, []⟩).softReset := by
      rw [State.request, arrive_eq running started (by simp) Command.reset.code_ne_zero, receive_reset]
    have next : exec (.reset tag []) s = .next (s.framed .cell ⟨Command.reset.code, tag, []⟩).softReset :=
      congrArg Host.Outcome.next arrived
    have causes : s.supplyLow = false ∧ s.resetLow = false := by simpa [State.inReset] using running
    refine ⟨_, next, ?_, ?_, fun p other => ?_⟩
    · have framed : (s.framed .cell ⟨Command.reset.code, tag, []⟩).supplyLow = false
          ∧ (s.framed .cell ⟨Command.reset.code, tag, []⟩).resetLow = false := causes
      simp only [State.softReset, framed.1, framed.2]
      rfl
    · rfl
    · cases p with
      | cell => exact absurd rfl other
      | _ => rfl
  · have imm : Port.cell.isImmediate Command.reset.code = true := by decide
    have role : Port.cell.command Command.reset.code = Option.some .reset := by decide
    have taken := arrive_immediate o.running o.started (hasRoom_of_open o) (r := ⟨Command.reset.code, tag, words⟩) fits
      imm role (by simpa [isSoftReset] using some)
    exact congrArg Host.Outcome.next (taken.trans (settle_answered o.empty _ _ _ _))

/-! ## The step of line time -/

theorem takeDueFor_of_none {s : State} (h : s.due = []) (n : Nat) : takeDueFor n s = s := by
  cases n with
  | zero => rfl
  | succ n => simp [takeDueFor, h, pickOne]

/-- INIT ends at a line time of 2 (R161). -/
theorem endInit_eq (s : State) (running : s.inReset = false) :
    s.endInit = if s.mode = .init ∧ 2 ≤ s.lineTime.toNat then
      { s with mode := .setup, map := { s.map with table := [], bitmap := [] } } else s := by
  have limit : Config.initLimit = 2 := rfl
  unfold State.endInit
  rw [limit]
  by_cases late : 2 ≤ s.lineTime.toNat
  · by_cases init : s.mode = .init
    · simp [late, init, completeInit_of_init init running]
    · simp [late, init, completeInit_of_not (.inl init)]
  · simp [late]

theorem lineTimeStep_of_running {s : State} (running : s.inReset = false) :
    s.lineTimeStep = s.takeDue.endInit.tick := by
  simp [State.lineTimeStep, running]

theorem State.SameClock.inReset {s t : State} (h : s.SameClock t) : t.inReset = s.inReset := by
  rw [State.inReset, State.inReset, h.supplyLow, h.resetLow]

/-- The step of line time after the expiries that are due (R134, R142, R161). -/
theorem lineTimeStep_eq {s : State} (running : s.inReset = false) :
    s.lineTimeStep = if s.takeDue.mode = .init ∧ 2 ≤ s.lineTime.toNat then { s.takeDue with
        mode := .setup
        map := { s.takeDue.map with table := [], bitmap := [] }
        lineTime := s.lineTime + 1 }
      else { s.takeDue with lineTime := s.lineTime + 1 } := by
  have clock := takeDue_clock s
  rw [lineTimeStep_of_running running, endInit_eq _ (clock.inReset.trans running), ← clock.lineTime]
  split <;> rfl

/-! ## The timers that are due -/

theorem mem_due {s : State} {t : Timer} : t ∈ s.due ↔ t ∈ s.timers ∧ s.isDue t = true := List.mem_filter

/-- A running timer is due when the line time is not earlier than its expiry (R134, R142). -/
theorem expired_iff (now : Time) (e : Option Time) :
    expired now e = true ↔ ∃ t, e = some t ∧ (now - t).toNat < 2 ^ 31 := by
  cases e <;> simp [expired, notEarlier]

/-- The timers that stand once in every list of timers. -/
theorem fixed_mem_timers (s : State) : .presentation ∈ s.timers ∧ (∀ h, .grant h ∈ s.timers)
    ∧ (∀ h, .placeHold h ∈ s.timers) ∧ .dispenseHold ∈ s.timers ∧ ∀ p, .wait p ∈ s.timers := by
  refine ⟨by simp [State.timers], fun h => ?_, fun h => ?_, by simp [State.timers], fun p => ?_⟩
  · cases h <;> simp [State.timers]
  · cases h <;> simp [State.timers]
  · cases p <;> simp [State.timers, Port.all]

theorem age_mem_timers {s : State} {i : CaptureInput} {t : Time} {rest : List Time} (h : (s.line i).queue = t :: rest) :
    .age i ∈ s.timers := by
  cases i <;> simp [State.timers, State.ageTimers, h]

/-- A named site that is on the track has its pot-life timer in the list (R105). -/
theorem potLife_mem_timers {s : State} {strip : Word} {column row p : Nat} {x : Site}
    (h : s.findSite strip column row = some (p, x)) : .potLife strip column row ∈ s.timers := by
  unfold State.findSite at h
  split at h
  · cases h
  · next q found =>
    split at h
    · cases h
    · next y site =>
      have named := List.find?_some found
      have onTrack := List.mem_of_find?_eq_some found
      unfold State.siteAt at site
      cases at_ : s.columnAt q with
      | none => rw [at_] at site; cases site
      | some c =>
        simp only [at_, Column.isNamed, Bool.and_eq_true, beq_iff_eq] at named site
        obtain ⟨rfl, rfl⟩ := named
        obtain ⟨inside, -⟩ := List.getElem?_eq_some_iff.mp site
        have timer : Timer.potLife c.strip c.column row ∈ c.potTimers :=
          List.mem_map.mpr ⟨row, List.mem_range.mpr inside, rfl⟩
        have column : c ∈ s.columns := List.mem_filterMap.mpr ⟨q, onTrack, at_⟩
        have listed := List.mem_flatMap.mpr ⟨c, column, timer⟩
        simp [State.timers, listed]

theorem potLife_due_iff (s : State) (strip : Word) (column row : Nat) : .potLife strip column row ∈ s.due
    ↔ ∃ p x, s.findSite strip column row = some (p, x) ∧ expired s.lineTime x.potExpiry = true := by
  rw [mem_due]
  constructor
  · rintro ⟨-, due⟩
    simp only [State.isDue, State.potExpiry] at due
    cases found : s.findSite strip column row with
    | none => rw [found] at due; cases due
    | some px => exact ⟨px.1, px.2, rfl, by simpa [found] using due⟩
  · rintro ⟨p, x, found, due⟩
    exact ⟨potLife_mem_timers found, by simpa [State.isDue, State.potExpiry, found] using due⟩

theorem wait_due_iff (s : State) (p : Port) :
    .wait p ∈ s.due ↔ ∃ x, (s.link p).held = some x ∧ expired s.lineTime x.expiry = true := by
  obtain ⟨-, -, -, -, listed⟩ := fixed_mem_timers s
  rw [mem_due, and_iff_right (listed p), State.isDue, State.waitExpiry]
  cases (s.link p).held <;> simp [expired]

theorem age_due_iff (s : State) (i : CaptureInput) : .age i ∈ s.due
    ↔ ∃ t rest, (s.line i).queue = t :: rest ∧ (s.lineTime - (t + 60000)).toNat < 2 ^ 31 := by
  rw [mem_due]
  constructor
  · rintro ⟨-, due⟩
    simp only [State.isDue] at due
    split at due
    · cases due
    · next t rest queue => exact ⟨t, rest, queue, of_decide_eq_true due⟩
  · rintro ⟨t, rest, queue, due⟩
    refine ⟨age_mem_timers queue, ?_⟩
    simp only [State.isDue, queue]
    exact decide_eq_true due

/-- An expiry row of a timer that has run out takes its expiry (R143). -/
theorem takeExpiry_of_due {s : State} {t : Timer} (h : t ∈ s.due) : s.takeExpiry t = (s.expire t).settle := by
  simp [State.takeExpiry, (mem_due.mp h).2]

theorem takeDueFor_of_one {s : State} {t : Timer} (h : s.due = [t]) (n : Nat) :
    takeDueFor (n + 1) s = takeDueFor n (s.expire t).settle := by
  rw [takeDueFor, h]
  rfl

/-- Among several expiries that are due, the choice is free (R143). -/
theorem takeDueFor_of_many {s : State} (h : 2 ≤ s.due.length) (n : Nat) : ∃ t ∈ s.due,
    takeDueFor (n + 1) s = takeDueFor n ((({ s with choices := s.choices + 1 }).expire t).settle) := by
  rw [takeDueFor]
  split
  · next none => rw [pickOne_eq_none none] at h; simp at h
  · next t chosen =>
    refine ⟨t, mem_of_pickOne chosen, ?_⟩
    have several : 1 < s.due.length := h
    rw [State.chooseAmong, if_pos several]
    rfl

/-- Settles O13: the step is the expiries due, the end of INIT and the rise of line time; a timer is due by its owner. -/
theorem lineTimeStepRaisesLineTimeByOne : Obligations.LineTimeStepRaisesLineTimeByOne := by
  have due_none {s : State} (none : s.due = []) : s.takeDue = s := takeDueFor_of_none none _
  refine ⟨fun s => ⟨fun running none early => ?_, fun running none init late => ?_, fun running => ?_, fun reset => ?_⟩,
    fun s u running taken => ?_, fun s => ⟨rfl, fun n none => takeDueFor_of_none none n⟩,
    fun s n t one => takeDueFor_of_one one n, fun s n many => takeDueFor_of_many many n, fun s i t due row => ?_,
    fun s out isOut => ?_⟩
  · refine congrArg Host.Outcome.next ((lineTimeStep_eq running).trans ?_)
    rw [due_none none, if_neg fun ⟨init, late⟩ => absurd late (Nat.not_le_of_lt (early init))]
  · refine congrArg Host.Outcome.next ((lineTimeStep_eq running).trans ?_)
    rw [due_none none, if_pos ⟨init, late⟩]
  · refine ⟨_, congrArg Host.Outcome.next (lineTimeStep_eq running), ?_⟩
    split <;> rfl
  · refine congrArg Host.Outcome.next ?_
    simp [State.lineTimeStep, reset]
  · subst taken
    exact congrArg Host.Outcome.next (lineTimeStep_eq running)
  · rcases row with ⟨rfl, rfl⟩ | ⟨h, rfl, rfl⟩ | ⟨h, rfl, rfl⟩ | ⟨rfl, rfl⟩ | ⟨strip, column, r, rfl, rfl⟩ | ⟨p, rfl, rfl⟩
      | ⟨c, rfl, rfl⟩ <;> exact congrArg Host.Outcome.next (takeExpiry_of_due due)
  · obtain ⟨presentation, grant, placeHold, dispenseHold, -⟩ := fixed_mem_timers s
    have out_iff (e : Option Time) : expired s.lineTime e = true ↔ out e := (expired_iff ..).trans (isOut e).symm
    refine ⟨?_, fun h => ?_, fun h => ?_, ?_, fun strip column row => ?_, fun p => ?_, fun i => age_due_iff s i⟩
    · rw [mem_due, and_iff_right presentation, State.isDue, out_iff]
    · rw [mem_due, and_iff_right (grant h), State.isDue, out_iff]
    · rw [mem_due, and_iff_right (placeHold h), State.isDue, out_iff]
    · rw [mem_due, and_iff_right dispenseHold, State.isDue, out_iff]
    · simp only [potLife_due_iff, out_iff]
    · simp only [wait_due_iff, out_iff]

/-! ## Capture -/

theorem capture_qualified {s : State} {i : CaptureInput} (running : s.inReset = false) (rising : (s.line i).pin = .rising) :
    s.pinEvent i .staysHigh = s.setCapture i
      (if (s.line i).queue.length < CaptureInput.capacity i then
        { s.line i with queue := (s.line i).queue ++ [s.lineTime], pin := .high }
      else { s.line i with lost := min ((s.line i).lost + 1) 65535, pin := .high }) := by
  simp only [State.pinEvent, rising, running, PinLevel.qualifies, PinLevel.next, CaptureLine.record]
  split <;> simp_all [satAdd, Config.counterMax]

theorem capture_not_qualified {s : State} {i : CaptureInput} {e : PinEvent}
    (h : (s.line i).pin.qualifies e = false ∨ s.inReset = true) :
    s.pinEvent i e = s.setCapture i { s.line i with pin := (s.line i).pin.next e } := by
  rcases h with h | h <;> simp [State.pinEvent, h]

/-- Settles O14: an edge is recorded when it qualifies outside reset; every other pin event moves the level alone. -/
theorem qualifiedEdgeIsRecordedOrLost : Obligations.QualifiedEdgeIsRecordedOrLost := by
  have next_staysHigh (l : PinLevel) : l.next .staysHigh = if l = .low then .low else .high := by cases l <;> rfl
  have next_rises (l : PinLevel) : l.next .rises = if l = .high then .high else .rising := by cases l <;> rfl
  have next_falls (l : PinLevel) : l.next .falls = .low := by cases l <;> rfl
  refine fun s i => ⟨fun running rising => congrArg Host.Outcome.next (capture_qualified running rising), fun h => congrArg Host.Outcome.next ?_,
    congrArg Host.Outcome.next ?_, congrArg Host.Outcome.next ?_⟩
  · rw [← next_staysHigh]
    exact capture_not_qualified (h.imp_left fun other => by simpa [PinLevel.qualifies] using other)
  · rw [← next_rises]
    exact capture_not_qualified (.inl (by simp [PinLevel.qualifies]))
  · rw [← next_falls (s.line i).pin]
    exact capture_not_qualified (.inl (by simp [PinLevel.qualifies]))

/-- Settles O15: the oldest entry decides; the removal leaves the ports settled. -/
theorem ageLimitRemovesTheOldestEntryAsStray : Obligations.AgeLimitRemovesTheOldestEntryAsStray := by
  refine fun s i settled => ⟨fun t rest queue => congrArg Host.Outcome.next ?_, fun empty => congrArg Host.Outcome.next ?_⟩
  · have due : s.isDue (.age i) = decide ((s.lineTime - (t + 60000)).toNat < 2 ^ 31) := by
      simp only [State.isDue, queue]
      rfl
    have dropped : s.expire (.age i)
        = s.setCapture i { s.line i with queue := rest, stray := min ((s.line i).stray + 1) 65535 } := by
      simp only [State.expire, CaptureLine.dropOldest, queue]
      rfl
    have kept : (s.expire (.age i)).settle = s.expire (.age i) := settle_of_settled settled
    simp only [State.takeExpiry, due, decide_eq_true_eq, kept]
    rw [dropped]
  · simp [State.takeExpiry, State.isDue, empty]

end Sys2Proof.Machine
end

section
/-! THEOREMS. Frames and the taking of requests (O16 to O18). -/

namespace Sys2Proof.Machine

open Sys2Proof

/-! ## The bytes of a request frame (R174) -/

theorem wordBytes_append (hi lo : Byte) : wordBytes (hi ++ lo : BitVec 16) = [hi, lo] := by
  have high : (hi ++ lo : BitVec 16).extractLsb' 8 8 = hi := by
    apply BitVec.eq_of_getLsbD_eq
    intro i inside
    rw [BitVec.getLsbD_extractLsb', BitVec.getLsbD_append]
    simp [inside]
  have low : (hi ++ lo : BitVec 16).extractLsb' 0 8 = lo := by
    apply BitVec.eq_of_getLsbD_eq
    intro i inside
    rw [BitVec.getLsbD_extractLsb', BitVec.getLsbD_append]
    simp [inside]
  rw [wordBytes, high, low]

/-- An even number of bytes is the bytes of its words. -/
theorem wordBytes_wordsOf (n : Nat) {bytes : List Byte} (even : bytes.length = 2 * n) :
    (wordsOf bytes).flatMap wordBytes = bytes ∧ (wordsOf bytes).length = n := by
  induction n generalizing bytes with
  | zero => rw [List.eq_nil_of_length_eq_zero even]; exact ⟨rfl, rfl⟩
  | succ n ih =>
    match bytes, even with
    | hi :: lo :: rest, even =>
      obtain ⟨same, length⟩ := ih (bytes := rest) (by simp only [List.length_cons] at even; omega)
      rw [wordsOf, List.flatMap_cons, wordBytes_append, same, List.length_cons, length]
      exact ⟨rfl, rfl⟩
    | [_], even => simp only [List.length_singleton] at even; omega

/-- Settles O16: the parser checks the count, the length and the extra bits, and reads the words two bytes each. -/
theorem requestFrameBytesCarryExactlyOneRequest : Obligations.RequestFrameBytesCarryExactlyOneRequest := by
  intro bytes extra r
  constructor
  · intro parsed
    match bytes, parsed with
    | code :: tag :: n :: rest, parsed =>
      rw [parseFrame] at parsed
      split at parsed
      · next ok =>
        obtain ⟨fits, length, whole⟩ := ok
        cases parsed
        obtain ⟨same, count⟩ := wordBytes_wordsOf n.toNat length
        refine ⟨whole, by rw [count]; exact fits, ?_⟩
        simp only [frameBytes, count, same, BitVec.ofNat_toNat, BitVec.setWidth_eq]
        rfl
      · cases parsed
    | [], parsed => cases parsed
    | [_], parsed => cases parsed
    | [_, _], parsed => cases parsed
  · rintro ⟨rfl, fits, rfl⟩
    exact parseFrame_frameBytes r fits

/-! ## Request frames -/

theorem beginFrame_of_running {s : State} (p : Port) (running : s.inReset = false) :
    s.beginFrame p = s.setLink p { s.link p with selectLow := true, frame := some (s.newFrame p) } := by
  simp [State.beginFrame, running]

theorem beginFrame_of_reset {s : State} (p : Port) (reset : s.inReset = true) :
    s.beginFrame p = s.setLink p { s.link p with selectLow := true } := by
  simp [State.beginFrame, State.select, reset]

theorem endFrame_of_nothing {s : State} {p : Port} {bytes : List Byte} (h : s.inReset = true ∨ bytes = [])
    (extra : Nat) : s.endFrame p bytes extra = s.dropFrame p := by
  rcases h with reset | rfl
  · simp [State.endFrame, reset]
  · simp [State.endFrame]

/-- A frame that is discarded as it ends (R176). -/
theorem endFrame_discard (s : State) (p : Port) (f : OpenFrame) (out : List Byte) :
    (s.setLink p ((s.link p).endFrame f out)).discard p = s.setLink p { s.link p with
      selectLow := false
      frame := none
      lost := true
      lostFrames := min ((s.link p).lostFrames + 1) 65535
      sdo := out } := by
  simp [State.discard, Link.discard, Link.endFrame, satAdd]

/-- What makes a request that has arrived a lost frame (R179, R183). -/
theorem receive_lost {s : State} {p : Port} {r : Request}
    (h : p.isImmediate r.code = false ∧ 4 ≤ (s.link p).requests.length
      ∨ p.isImmediate r.code = true ∧ (r.code = Command.reset.code → r.words ≠ [])
        ∧ (8 ≤ (s.link p).replies.length ∨ ((s.link p).held.isSome ∧ 7 ≤ (s.link p).replies.length))) :
    s.receive p r = s.discard p := by
  have capacity : Config.requestCapacity = 4 := rfl
  rcases h with ⟨queued, full⟩ | ⟨imm, words, full⟩
  · have other : isSoftReset p r = false := by
      simp only [Port.isImmediate, Bool.or_eq_false_iff] at queued
      simp [isSoftReset, queued.2]
    have noRoom : ¬ (s.link p).requests.length < Config.requestCapacity := by omega
    simp [State.receive, other, queued, noRoom]
  · have other : isSoftReset p r = false := by
      by_cases reset : r.code = Command.reset.code
      · simp [isSoftReset, words reset]
      · simp [isSoftReset, reset]
    have noRoom : (s.link p).hasRoom = false := by
      unfold Link.hasRoom
      rcases full with full | ⟨held, full⟩
      · split <;> simp <;> omega
      · rw [if_pos held]; simp; omega
    simp [State.receive, other, imm, noRoom]

/-- A port that holds a request or owes eight replies takes none, so a request joins its queue and waits (R181). -/
theorem receive_waits {s : State} {p : Port} {r : Request} (queued : p.isImmediate r.code = false)
    (room : (s.link p).requests.length < 4) (busy : (s.link p).held.isSome ∨ 8 ≤ (s.link p).replies.length)
    (settled : ∀ q, q ≠ p → (s.link q).canTake = false) :
    s.receive p r = s.setLink p { s.link p with requests := (s.link p).requests ++ [r] } := by
  rw [receive_queued queued room]
  refine settle_of_settled (List.filter_eq_nil_iff.mpr fun q _ => ?_)
  by_cases hq : q = p
  · subst hq
    rw [setLink_link]
    rcases busy with held | full
    · simp [Link.canTake, Option.isSome_iff_ne_none.mp held]
    · simp [Link.canTake]; omega
  · rw [setLink_link_ne _ _ hq, settled q hq]
    nofun

theorem settled_iff (s : State) : s.Settled ↔ ∀ q, (s.link q).canTake = false := by
  constructor
  · intro settled q
    have none := List.filter_eq_nil_iff.mp settled q (by cases q <;> simp [Port.all])
    simpa using none
  · intro none
    exact List.filter_eq_nil_iff.mpr fun q _ => by simp [none q]

/-- The beginning of a frame whose end alone would show the same status byte changes nothing at its end (log entry 23). -/
theorem endFrame_beginFrame {s : State} {p : Port} (unseen : (s.link p).frame = none) (bytes : List Byte)
    (extra : Nat) : (s.beginFrame p).endFrame p bytes extra = s.endFrame p bytes extra := by
  cases reset : s.inReset with
  | true =>
    have still : (s.beginFrame p).inReset = true := by rw [beginFrame_of_reset p reset]; exact reset
    rw [endFrame_of_nothing (.inl still), endFrame_of_nothing (.inl reset), beginFrame_of_reset p reset]
    simp [State.dropFrame]
  | false =>
    have running : (s.beginFrame p).inReset = false := by rw [beginFrame_of_running p reset]; exact reset
    have mode : (s.beginFrame p).mode = s.mode := by rw [beginFrame_of_running p reset]; rfl
    have ending : (s.beginFrame p).endingFrame p = s.endingFrame p := by
      rw [beginFrame_of_running p reset]
      simp [State.endingFrame, unseen]
    have link (f : OpenFrame) (out : List Byte) :
        ((s.beginFrame p).link p).endFrame f out = (s.link p).endFrame f out := by
      rw [beginFrame_of_running p reset]
      simp [Link.endFrame]
    have whole (l : Link) : (s.beginFrame p).setLink p l = s.setLink p l := by
      rw [beginFrame_of_running p reset]
      simp
    have dropped : (s.beginFrame p).dropFrame p = s.dropFrame p := by
      rw [beginFrame_of_running p reset]
      simp [State.dropFrame]
    simp only [State.endFrame, running, reset, dropped, State.endFetch, State.endRequest, ending, link, whole, mode]

/-- Settles O17: the beginning, the end, and the four ways in which a request frame is lost. -/
theorem requestFrameIsQueuedOrLost : Obligations.RequestFrameIsQueuedOrLost := by
  refine ⟨fun s p => ⟨rfl, fun running => ?_, fun reset => ?_, fun bytes extra h => ?_,
    fun b rest extra f running code frame => ⟨fun lost => ?_, fun r started parsed queued room busy settled => ?_⟩⟩,
    fun p r => ?_, fun s u i p r row => ⟨fun begun => ?_, fun unseen => ?_⟩⟩
  · exact congrArg Host.Outcome.next (beginFrame_of_running p running)
  · exact congrArg Host.Outcome.next (beginFrame_of_reset p reset)
  · exact congrArg Host.Outcome.next (endFrame_of_nothing h extra)
  · have ending : s.endingFrame p = f := frame.symm
    refine congrArg Host.Outcome.next ((endFrame_request running code).trans (.trans ?_ (endFrame_discard s p f _)))
    simp only [State.endRequest, ending, List.length_cons, Nat.add_sub_cancel, setLink_mode]
    rcases lost with init | malformed | ⟨r, parsed, queued, full⟩ | ⟨r, parsed, imm, words, full⟩
    · rw [if_pos init]
    · rw [malformed]
      split <;> rfl
    · rw [parsed]
      split
      · rfl
      · exact receive_lost (.inl ⟨queued, by simpa [Link.endFrame] using full⟩)
    · rw [parsed]
      split
      · rfl
      · exact receive_lost (.inr ⟨imm, words, by simpa [Link.endFrame] using full⟩)
  · have ending : s.endingFrame p = f := frame.symm
    refine congrArg Host.Outcome.next ((endFrame_request running code).trans ?_)
    simp only [State.endRequest, ending, List.length_cons, Nat.add_sub_cancel, setLink_mode, if_neg started, parsed]
    rw [receive_waits queued (by simpa [Link.endFrame] using room) (by simpa [Link.endFrame] using busy) fun q hq => ?_]
    · simp [Link.endFrame]
    · rw [setLink_link_ne _ _ hq]
      exact (settled_iff s).mp settled q
  · simp [Port.isImmediate, or_assoc]
  · rw [exec_of_requestOf row]
    cases begun
    rfl
  · rw [exec_of_requestOf row]
    exact congrArg Host.Outcome.next (endFrame_beginFrame unseen ..).symm

/-! ## Fetch frames -/

theorem endFetchFrame_of_frame {s : State} {p : Port} {f : OpenFrame} {n : Nat} (running : s.inReset = false)
    (some : 0 < n) (frame : (s.link p).frame = Option.some f) :
    s.endFetchFrame p n = if s.mode = .init then (s.setLink p ((s.link p).endFrame f (fetchBytes f n))).discard p
      else (s.setLink p (((s.link p).endFrame f (fetchBytes f n)).fetched f n)).settle := by
  have whole : n ≠ 0 := by omega
  simp [State.endFetchFrame, running, whole, State.endFetch, State.endingFrame, frame]

/-- A fetch that ends within or after its reply's last byte shifts the whole reply out, then 00h (R178). -/
theorem fetchBytes_of_whole {f : OpenFrame} {r : Reply} {n : Nat} (oldest : f.oldest = some r)
    (long : 4 + 2 * r.words.length ≤ n) :
    fetchBytes f n = ([f.status, r.tag, r.code.byte, BitVec.ofNat 8 r.words.length] ++ r.words.flatMap wordBytes)
      ++ List.replicate (n - (4 + 2 * r.words.length)) 0 := by
  have length : ([f.status, r.tag, r.code.byte, BitVec.ofNat 8 r.words.length] ++ r.words.flatMap wordBytes).length
      = 4 + 2 * r.words.length := by
    rw [List.length_append, length_flatMap_wordBytes]
    rfl
  have bytes : f.status :: replyBytes f.oldest
      = [f.status, r.tag, r.code.byte, BitVec.ofNat 8 r.words.length] ++ r.words.flatMap wordBytes := by
    simp [oldest, replyBytes]
  rw [fetchBytes, bytes, List.take_append, length,
    List.take_of_length_le (by rw [length]; exact long), List.take_replicate]
  congr 2
  omega

theorem fetched_of_whole {l : Link} {f : OpenFrame} {r : Reply} {n : Nat} (oldest : f.oldest = some r)
    (live : f.live = true) (long : 4 + 2 * r.words.length ≤ n) :
    l.fetched f n = { l with replies := l.replies.tail } := by
  simp [Link.fetched, oldest, live, long]

theorem fetched_of_part {l : Link} {f : OpenFrame} {n : Nat}
    (h : f.oldest = none ∨ f.live = false ∨ ∃ r, f.oldest = some r ∧ n < 4 + 2 * r.words.length) :
    l.fetched f n = l := by
  unfold Link.fetched
  split
  · rfl
  · next r oldest =>
    rw [oldest] at h
    rcases h with none | dead | ⟨_, same, short⟩
    · cases none
    · simp [dead]
    · cases same
      have : ¬ 4 + 2 * r.words.length ≤ n := by omega
      simp [this]

/-! ## The taking of requests -/

theorem canTake_eq_false {l : Link} (h : l.requests = [] ∨ l.held ≠ none ∨ 8 ≤ l.replies.length) :
    l.canTake = false := by
  rcases h with empty | held | full
  · simp [Link.canTake, empty]
  · simp [Link.canTake, held]
  · simp [Link.canTake]; omega

theorem canTake_of {l : Link} {r : Request} {rest : List Request} (requests : l.requests = r :: rest)
    (free : l.held = none) (room : l.replies.length ≤ 7) : l.canTake = true := by
  simp [Link.canTake, requests, free, room]

theorem chooseAmong_eq {α : Type} (s : State) (xs : List α) : ∃ k, s.chooseAmong xs = { s with choices := k } := by
  unfold State.chooseAmong
  split
  · exact ⟨s.choices + 1, rfl⟩
  · exact ⟨s.choices, rfl⟩

/-- Settling that does anything begins with the oldest request of a port that can take one (R181). -/
theorem settle_begins {s : State} (sound : s.LinksSound) (some : s.settle ≠ s) :
    ∃ (p : Port) (r : Request) (rest : List Request) (k : Nat),
      (s.link p).requests = r :: rest ∧ (s.link p).held = none ∧ (s.link p).replies.length ≤ 7
        ∧ s.settle = (take p r (({ s with choices := k }).setLink p { s.link p with requests := rest })).settle := by
  cases chosen : pickOne s.choices s.ready with
  | none => exact absurd (settle_of_settled (pickOne_eq_none chosen)) some
  | some p =>
    have can := (List.mem_filter.mp (mem_of_pickOne chosen)).2
    simp only [Link.canTake, Bool.and_eq_true, Option.isNone_iff_eq_none, decide_eq_true_eq] at can
    obtain ⟨⟨waiting, free⟩, room⟩ := can
    obtain ⟨k, choice⟩ := chooseAmong_eq s s.ready
    cases requests : (s.link p).requests with
    | nil => simp [requests] at waiting
    | cons r rest =>
      refine ⟨p, r, rest, k, requests, free, room, ?_⟩
      have here : ({ s with choices := k } : State).link p = s.link p := rfl
      rw [settle_of_pick sound chosen, choice, State.takeOldest, here, requests]

theorem command_of_code {p : Port} {c : Command} (role : p.codes.contains c.code = true) : p.command c.code = some c := by
  have named : Command.ofCode c.code = some c := by cases c <;> decide
  rw [Port.command, if_pos role, named]

/-- Every code of a port's role names a request (R188). -/
theorem command_isSome {p : Port} {b : Byte} (role : p.codes.contains b = true) : ∃ c : Command, b = c.code := by
  have every : ∀ b ∈ p.codes, (Command.ofCode b).isSome = true := by cases p <;> decide
  obtain ⟨c, named⟩ := Option.isSome_iff_exists.mp (every b (List.contains_iff_mem.mp role))
  exact ⟨c, code_of_ofCode named⟩

theorem take_of_no_role {s : State} {p : Port} {r : Request} (role : p.codes.contains r.code = false) :
    take p r s = (s.clearFresh p).reply p r.tag .badcmd [] := by
  simp only [take, Port.command, role, Bool.false_eq_true, if_false]

theorem take_of_aborted {s : State} {p : Port} {r : Request} (role : p.codes.contains r.code = true)
    (aborted : (s.link p).causes ≠ []) (other : r.code ≠ Command.clearAbort.code) :
    take p r s = (s.clearFresh p).reply p r.tag .aborted [] := by
  obtain ⟨c, code⟩ := command_isSome role
  have named : p.command r.code = some c := by rw [code] at role ⊢; exact command_of_code role
  have notClear : (c != .clearAbort) = true := by
    simp only [bne_iff_ne, ne_eq]
    rintro rfl
    exact other code
  have isAborted : (s.clearFresh p).isAborted p = true := by simp [State.isAborted, State.clearFresh, aborted]
  simp only [take, named, isAborted, notClear, Bool.and_self, if_true]

/-- Settles O18: the fetch frame's parts, and the taking of the oldest requests that its end may allow. -/
theorem fetchRemovesTheReplyItShiftsOutWhole : Obligations.FetchRemovesTheReplyItShiftsOutWhole := by
  refine ⟨fun s p => ⟨rfl, fun running => ?_, fun reset => ?_, fun f frame => ?_, fun unseen => ?_, fun n h => ?_,
    fun f n running some frame => ⟨fun init => ?_, fun started => ⟨fun r oldest live long => ?_, fun part => ?_⟩⟩⟩,
    fun s idle => settle_of_settled ((settled_iff s).mpr fun p => canTake_eq_false (idle p)),
    fun s p r rest bounded legal requests free room others => ?_,
    fun s bounded legal some => settle_begins ⟨bounded, legal⟩ some, fun s t p r fresh => ?_⟩
  · exact congrArg Host.Outcome.next (beginFrame_of_running p running)
  · exact congrArg Host.Outcome.next (beginFrame_of_reset p reset)
  · refine congrArg Host.Outcome.next ?_
    simp [State.fixReply, frame]
  · refine congrArg Host.Outcome.next ?_
    simp [State.fixReply, unseen]
  · refine congrArg Host.Outcome.next ?_
    have dropped : (s.inReset || n == 0) = true := by simpa using h
    simp only [State.endFetchFrame, dropped, if_true]
    rfl
  · refine congrArg Host.Outcome.next ((endFetchFrame_of_frame running some frame).trans ?_)
    rw [if_pos init, endFrame_discard]
  · refine congrArg Host.Outcome.next ((endFetchFrame_of_frame running some frame).trans ?_)
    rw [if_neg started, fetched_of_whole oldest live long, fetchBytes_of_whole oldest long]
    rfl
  · refine congrArg Host.Outcome.next ((endFetchFrame_of_frame running some frame).trans ?_)
    rw [if_neg started, fetched_of_part part]
    rfl
  · exact settle_of_one ⟨bounded, legal⟩ requests (canTake_of requests free room) fun q hq =>
      canTake_eq_false (others q hq)
  · subst fresh
    exact ⟨take_of_no_role, take_of_aborted, fun i row o fits code queued =>
      (exec_of_requestOf row s).trans (congrArg Host.Outcome.next (arrive_open o fits code queued))⟩

end Sys2Proof.Machine
end

section
/-! THEOREMS. A request on an idle port: its word count, the mode and the abort are judged before its block acts (O19 to O22).
`exec_handed` and `exec_immediate` say once how a request row reaches its block. -/

namespace Sys2Proof.Machine

open Sys2Proof

/-! ## A request row on its port -/

/-- The port of a request is one that its role names (R188). -/
theorem head_of_role {p : Port} {c : Command} (role : p.codes.contains c.code = true)
    (head : c.code ∈ headCodes) : ∃ h : Head, p = h.port := by
  cases p with
  | headA => exact ⟨.A, rfl⟩
  | headB => exact ⟨.B, rfl⟩
  | cell => exact absurd (List.contains_iff_mem.mp role) (by revert head; generalize c.code = b; revert b; decide)
  | table => exact absurd (List.contains_iff_mem.mp role) (by revert head; generalize c.code = b; revert b; decide)
  | dispense => exact absurd (List.contains_iff_mem.mp role) (by revert head; generalize c.code = b; revert b; decide)

theorem cell_of_role {p : Port} {c : Command} (role : p.codes.contains c.code = true)
    (cell : c.code ∈ cellCodes) : p = .cell := by
  cases p with
  | cell => rfl
  | _ => exact absurd (List.contains_iff_mem.mp role) (by revert cell; generalize c.code = b; revert b; decide)

theorem table_of_role {p : Port} {c : Command} (role : p.codes.contains c.code = true)
    (table : c = .awaitOrder ∨ c = .presented ∨ c = .presentFail) : p = .table := by
  rcases table with rfl | rfl | rfl <;> revert role <;> cases p <;> decide

theorem dispense_of_role {p : Port} {c : Command} (role : p.codes.contains c.code = true)
    (dispense : c = .nextSite ∨ c = .dispensed ∨ c = .dispenseFail) : p = .dispense := by
  rcases dispense with rfl | rfl | rfl <;> revert role <;> cases p <;> decide

/-- A queued request of the port's role is met by its block in the event of its arrival (R174, R181). -/
theorem exec_handed {s : State} {i : Instr} {p : Port} {c : Command} {tag : Byte} {words : List Word}
    (row : i.requestOf = some (p, c.request tag words)) (idle : s.Idle p) (fits : words.length ≤ 24)
    (imm : p.isImmediate c.code = false) (role : p.codes.contains c.code = true) :
    exec i s = .next (takeCommand p c (c.request tag words) (s.handed p c tag words)) :=
  (exec_of_requestOf row s).trans
    (congrArg Host.Outcome.next (arrive_idle idle fits c.code_ne_zero imm (command_of_code role)))

/-- An immediate request of the port's role other than a RESET without words (R183). -/
theorem exec_immediate {s : State} {i : Instr} {p : Port} {c : Command} {tag : Byte} {words : List Word}
    (row : i.requestOf = some (p, c.request tag words)) (running : s.inReset = false) (started : s.mode ≠ .init)
    (room : (s.link p).hasRoom = true) (fits : words.length ≤ 24) (imm : p.isImmediate c.code = true)
    (role : p.codes.contains c.code = true) (other : isSoftReset p (c.request tag words) = false) :
    exec i s = .next (takeCommand p c (c.request tag words) (s.handed p c tag words)).settle :=
  (exec_of_requestOf row s).trans
    (congrArg Host.Outcome.next (arrive_immediate running started room fits imm (command_of_code role) other))

/-- A request that is answered without its block's acting is answered so, immediate or not, on an idle port. -/
theorem exec_answered {s : State} {i : Instr} {p : Port} {c : Command} {tag : Byte} {words : List Word} {code : ReplyCode}
    {ws : List Word} (row : i.requestOf = some (p, c.request tag words)) (idle : s.Idle p) (fits : words.length ≤ 24)
    (role : p.codes.contains c.code = true) (other : isSoftReset p (c.request tag words) = false)
    (taken : takeCommand p c (c.request tag words) (s.handed p c tag words)
      = s.answered p (c.request tag words) code ws) :
    exec i s = .next (s.answered p (c.request tag words) code ws) := by
  cases imm : p.isImmediate c.code with
  | false => rw [exec_handed row idle fits imm role, taken]
  | true =>
    rw [exec_immediate row idle.running idle.started (hasRoom_of_open idle.toOpen) fits imm role other, taken,
      settle_answered idle.empty]

/-! ## Word counts (R188) -/

/-- What a BADPARAM of a wrong word count carries (R6). -/
def Command.countWords (c : Command) (m : DieMap) : List Word := if c = .mapDie then [word m.nextIndex, 0] else []

/-- Every block judges the word count first (R168). -/
theorem takeCommand_of_wrong_count {p : Port} {c : Command} {r : Request} (role : p.codes.contains c.code = true)
    (bad : c.countOk r.words.length = false) (s : State) :
    takeCommand p c r s = s.reply p r.tag .badparam (c.countWords s.map) := by
  cases c with
  | cancel | portStatus | abort | clearAbort => exact if_pos (by simpa [Command.countOk] using bad)
  | reserve | release | pick | picked | pickFail | place | bonded | bondFail | discard | claims =>
    obtain ⟨h, rfl⟩ := head_of_role role (by decide)
    cases h <;> exact if_pos (by simpa [Command.countOk] using bad)
  | awaitOrder | presented | presentFail =>
    obtain rfl := table_of_role role (by simp)
    exact if_pos (by simpa [Command.countOk] using bad)
  | nextSite | dispensed | dispenseFail =>
    obtain rfl := dispense_of_role role (by simp)
    exact if_pos (by simpa [Command.countOk] using bad)
  | reset =>
    obtain rfl := cell_of_role role (by decide)
    rfl
  | mapDie =>
    obtain rfl := cell_of_role role (by decide)
    have unfit : mapDieFits r.words.length = false := bad
    simp [takeCommand, takeMapDie, unfit, Command.countWords]
  | _ =>
    obtain rfl := cell_of_role role (by decide)
    exact if_pos (by simpa [Command.countOk] using bad)

/-- A request with a wrong word count is no RESET without words. -/
theorem isSoftReset_of_wrong_count {p : Port} {c : Command} {tag : Byte} {words : List Word}
    (bad : c.countOk words.length = false) : isSoftReset p (c.request tag words) = false := by
  by_cases reset : c = .reset
  · subst reset
    have some : words ≠ [] := by simpa [Command.countOk] using bad
    simp [isSoftReset, Command.request, some]
  · have code : (c.code == Command.reset.code) = false := by revert reset; cases c <;> decide
    simp [isSoftReset, Command.request, code]

/-- Settles O19: the word count comes first, and the reason or disposition word before the mode. -/
theorem wrongWordCountIsAnsweredBadparam : Obligations.WrongWordCountIsAnsweredBadparam := by
  refine ⟨fun s i p c tag words row role idle fits bad => ?_, fun s tag x y z code above => ⟨fun h idle => ?_, ?_, ?_⟩⟩
  · exact exec_answered row idle fits role (isSoftReset_of_wrong_count bad) (takeCommand_of_wrong_count role bad _)
  · cases h <;> refine ⟨exec_answered rfl idle (by simp) (by decide) (by rfl) ?_,
      exec_answered rfl idle (by simp) (by decide) (by rfl) ?_, exec_answered rfl idle (by simp) (by decide) (by rfl) ?_⟩ <;>
      exact if_pos above
  · exact fun idle => exec_answered rfl idle (by simp) (by decide) (by rfl) (if_pos above)
  · exact fun idle => exec_answered rfl idle (by simp) (by decide) (by rfl) (if_pos above)

/-! ## Modes (R168) -/

/-- A block refuses a request that the mode does not make available, once its word count and its reason or disposition word
are good (R162, R168). -/
theorem takeCommand_of_unavailable {p : Port} {c : Command} {r : Request} {s : State}
    (role : p.codes.contains c.code = true) (count : c.countOk r.words.length = true)
    (codeWord : c.codeWordOk r.words = true) (refused : c.availableIn s.mode = false) :
    takeCommand p c r s = s.reply p r.tag .mode (c.modeWords s.mode) := by
  cases c with
  | reserve | release | pick | picked | pickFail | place | bonded | bondFail | discard =>
    obtain ⟨h, rfl⟩ := head_of_role role (by decide)
    simp only [Command.countOk, Command.codeWordOk, Command.availableIn, beq_iff_eq, decide_eq_true_eq, Bool.or_eq_false_iff,
      beq_eq_false_iff_ne] at count codeWord refused
    cases h <;> simp [takeCommand, onHead, Head.port, Port.head?, takeReserve, takeRelease, takePick, takePicked,
      takePickFail, takePlace, takeBonded, takeBondFail, takeDiscard, State.working, Command.modeWords, count, refused,
      Nat.not_lt.mpr, codeWord]
  | awaitOrder | presented | presentFail =>
    obtain rfl := table_of_role role (by simp)
    simp only [Command.countOk, Command.codeWordOk, Command.availableIn, beq_iff_eq, decide_eq_true_eq, Bool.or_eq_false_iff,
      beq_eq_false_iff_ne] at count codeWord refused
    simp [takeCommand, takeAwaitOrder, takePresented, takePresentFail, State.tableOpen, Command.modeWords, count, refused,
      Nat.not_lt.mpr, codeWord]
  | nextSite | dispensed | dispenseFail =>
    obtain rfl := dispense_of_role role (by simp)
    simp only [Command.countOk, Command.codeWordOk, Command.availableIn, beq_iff_eq, decide_eq_true_eq, Bool.or_eq_false_iff,
      beq_eq_false_iff_ne] at count codeWord refused
    simp [takeCommand, takeNextSite, takeDispensed, takeDispenseFail, State.working, Command.modeWords, count, refused,
      Nat.not_lt.mpr, codeWord]
  | start | trackClear | drain | resume | halt | stop | indexRequest =>
    obtain rfl := cell_of_role role (by decide)
    simp only [Command.countOk, Command.availableIn, beq_iff_eq, Bool.or_eq_false_iff, beq_eq_false_iff_ne, bne_eq_false_iff_eq]
      at count refused
    simp [takeCommand, takeStart, takeTrackClear, takeDrain, takeResume, takeHalt, takeStop, takeIndexRequest,
      State.refuseMode, Command.modeWords, count, refused]
  | _ => cases refused

/-- A request that some mode does not make available is queued. -/
theorem not_immediate_of_unavailable {p : Port} {c : Command} {m : LineMode} (refused : c.availableIn m = false) :
    p.isImmediate c.code = false := by
  cases c with
  | cancel | portStatus | reset => cases refused
  | _ => cases p <;> rfl

theorem fits_of_countOk {c : Command} {n : Nat} (count : c.countOk n = true) : n ≤ 24 := by
  cases c <;> simp [Command.countOk] at count <;> omega

/-- Settles O20: each block's mode check follows its count and its reason or disposition word. -/
theorem requestUnavailableInTheModeIsAnsweredMode : Obligations.RequestUnavailableInTheModeIsAnsweredMode := by
  intro s i p c tag words row role idle count codeWord refused
  rw [exec_handed row idle (fits_of_countOk count) (not_immediate_of_unavailable refused) role]
  exact congrArg Host.Outcome.next (takeCommand_of_unavailable role count codeWord refused)

/-! ## Requests that reach no block -/

/-- The immediate codes are of every port's role (R183). -/
theorem not_immediate_of_no_role {p : Port} {code : Byte} (role : p.codes.contains code = false) :
    p.isImmediate code = false := by
  cases imm : p.isImmediate code with
  | false => rfl
  | true =>
    have named : code = Command.cancel.code ∨ code = Command.portStatus.code ∨ p = .cell ∧ code = Command.reset.code := by
      simpa [Port.isImmediate, or_assoc] using imm
    refine absurd role ?_
    rcases named with rfl | rfl | ⟨rfl, rfl⟩
    · cases p <;> decide
    · cases p <;> decide
    · decide

/-- Settles O21: the role and the abort are judged before the block (R181, R194). -/
theorem unknownAndAbortedRequestsReachNoBlock : Obligations.UnknownAndAbortedRequestsReachNoBlock := by
  refine ⟨fun s p code tag words o fits some role => ?_, fun s i p r row o fits role aborted queued other => ?_⟩
  · refine congrArg Host.Outcome.next ((arrive_open o (r := ⟨code, tag, words⟩) fits some
      (not_immediate_of_no_role role)).trans ?_)
    exact take_of_no_role role
  · obtain ⟨c, code⟩ := command_isSome role
    refine (exec_of_requestOf row s).trans (congrArg Host.Outcome.next ?_)
    rw [arrive_open o fits (code ▸ c.code_ne_zero) queued]
    exact take_of_aborted role (by rw [framed_link]; exact aborted) other

/-! ## CANCEL (R184) -/

theorem answerHeld_of_held {s : State} {p : Port} {x : Held} (held : (s.link p).held = some x) (code : ReplyCode)
    (ws : List Word) : s.answerHeld p code ws = s.setLink p ((s.link p).answer x code ws) := by
  simp [State.answerHeld, held, Link.answer]

theorem acceptCancel_of_held {s : State} {p : Port} {x : Held} (held : (s.link p).held = some x) (r : Request) :
    s.acceptCancel p r = (s.setLink p ((s.link p).answer x .cancelled [])).reply p r.tag .done [] := by
  rw [State.acceptCancel, answerHeld_of_held held]

theorem head?_port (h : Head) : h.port.head? = some h := by cases h <;> rfl

/-- A CANCEL of a request that is no PICK and no PLACE (R45, R53, R97). -/
theorem cancelHeld_of_other {s : State} {p : Port} {r held : Request}
    (other : ∀ h, p.head? = some h → held.code ≠ Command.pick.code ∧ held.code ≠ Command.place.code) :
    s.cancelHeld p r held = s.acceptCancel p r := by
  unfold State.cancelHeld
  split
  · rfl
  · next h head =>
    obtain ⟨pick, place⟩ := other h head
    rw [if_neg pick, if_neg place]

theorem cancelHeld_of_pick {s : State} {h : Head} {r held : Request} (pick : held.code = Command.pick.code) :
    s.cancelHeld h.port r held
      = if s.isWaiting h then (s.removeWaiter h).acceptCancel h.port r else s.reply h.port r.tag .state [] := by
  simp only [State.cancelHeld, head?_port, pick, if_true]

theorem cancelHeld_of_place {s : State} {h : Head} {r held : Request} (place : held.code = Command.place.code) :
    s.cancelHeld h.port r held = (s.removePlacer h).acceptCancel h.port r := by
  have other : ¬ Command.place.code = Command.pick.code := by decide
  simp only [State.cancelHeld, head?_port, place, other, if_true, if_false]

theorem isWaiting_iff (s : State) (h : Head) : s.isWaiting h = true ↔ ∃ e ∈ s.arbiter.waiting, e.head = h := by
  simp [State.isWaiting]

/-- A CANCEL row on a port with room for its replies (R183, R184). -/
theorem exec_cancel {s : State} {p : Port} (tag : Byte) (running : s.inReset = false) (started : s.mode ≠ .init)
    (room : (s.link p).hasRoom = true) : exec (.cancel p tag []) s
      = .next (takeCancel p (Command.cancel.request tag []) (s.handed p .cancel tag [])).settle := by
  have imm : p.isImmediate Command.cancel.code = true := by cases p <;> decide
  have role : p.codes.contains Command.cancel.code = true := by cases p <;> decide
  have other : isSoftReset p (Command.cancel.request tag []) = false := by cases p <;> rfl
  have row : (Instr.cancel p tag []).requestOf = some (p, Command.cancel.request tag []) := rfl
  exact exec_immediate row running started room (Nat.zero_le _) imm role other

theorem takeCancel_of_held {s : State} {p : Port} {r : Request} {x : Held} (none : r.words = [])
    (held : (s.link p).held = some x) : takeCancel p r s = s.cancelHeld p r x.request := by
  simp [takeCancel, none, held]

/-- Settles O22: the case of no held request, and the held request's three kinds. -/
theorem cancelAnswersTheHeldRequest : Obligations.CancelAnswersTheHeldRequest := by
  refine ⟨fun s p tag running started => ⟨fun free room => ?_, fun x a held room handed => ?_⟩,
    fun s empty => settle_of_empty empty⟩
  · rw [exec_cancel tag running started (by simpa [Link.hasRoom, free] using room)]
    have none : ((s.handed p .cancel tag []).link p).held = none := by
      rw [State.handed, accepted_link]
      exact free
    simp only [takeCancel, none]
    rfl
  · have heldThere : (a.link p).held = some x := by
      rw [handed, State.handed, accepted_link]
      exact held
    have roomLeft : (s.link p).hasRoom = true := by simpa [Link.hasRoom, held] using room
    have taken := exec_cancel tag running started roomLeft
    rw [← handed, takeCancel_of_held rfl heldThere] at taken
    have waiting : a.arbiter = s.arbiter := by rw [handed]; rfl
    have placing : a.placement = s.placement := by rw [handed]; rfl
    refine ⟨fun other => ?_, fun h atHead pick waits => ?_, fun h atHead pick granted => ?_, fun h atHead place => ?_⟩
    · rw [taken, cancelHeld_of_other other, acceptCancel_of_held heldThere]
      rfl
    · subst atHead
      rw [taken, cancelHeld_of_pick pick, if_pos ((isWaiting_iff a h).mpr (waiting ▸ waits)),
        acceptCancel_of_held (s := a.removeWaiter h) heldThere, State.removeWaiter, waiting]
      rfl
    · subst atHead
      have gone : ¬ a.isWaiting h = true := by
        rw [isWaiting_iff, waiting]
        rintro ⟨e, mem, same⟩
        exact granted e mem same
      rw [taken, cancelHeld_of_pick pick, if_neg gone]
      rfl
    · subst atHead
      rw [taken, cancelHeld_of_place place, acceptCancel_of_held (s := a.removePlacer h) heldThere, State.removePlacer, placing]
      rfl

end Sys2Proof.Machine
end

section
/-! THEOREMS. Entry into abort, what leaves it, and what it disposes of (O23 to O25); the outputs (O26); the transitions of die
state and the target arithmetic (O27, O28). -/

namespace Sys2Proof.Machine

open Sys2Proof

/-! ## ABORT and CLEAR-ABORT (R195, R196) -/

/-- The entry into abort of a port with no request queued and none held. -/
theorem aborted_of_empty {l : Link} (empty : l.requests = []) (free : l.held = none) (c : AbortCause) (sticky : Bool)
    (now : Time) : l.aborted c sticky now
      = { l with causes := [⟨c, sticky⟩], flushed := min 255 l.flushed, firstCause := some now } := by
  simp [Link.aborted, empty, free]

theorem takeAbort_of_empty {p : Port} {r : Request} {s : State} (none : r.words = []) (empty : (s.link p).requests = [])
    (free : (s.link p).held = Option.none) :
    takeAbort p r s =
      let u := ((s.setLink p { s.link p with
        causes := [⟨.masterAbort, false⟩]
        flushed := min 255 (s.link p).flushed
        firstCause := some s.lineTime }).notify .portAborted [word p.number, 1]).dispose p
      u.reply p r.tag .done [word (u.link p).flushed] := by
  have entered := enterAbort_eq s p .masterAbort false
  rw [aborted_of_empty empty free] at entered
  simp only [takeAbort, none, List.length_nil, ne_eq, not_true_eq_false, if_false, entered]
  rfl

/-- A link unit after CLEAR-ABORT, by the sticky causes that stay (R196). -/
theorem cleared_eq {l : Link} {sticky : List CauseMark} (h : sticky = l.causes.filter fun c => c.sticky) :
    l.cleared = { l with
      causes := sticky
      flushed := 0
      firstCause := if sticky = [] then none else l.firstCause } := by
  have same : l.causes.filter CauseMark.sticky = sticky := h.symm
  simp [Link.cleared, same]

theorem clearWords_eq {l : Link} {sticky : List CauseMark} (h : sticky = l.causes.filter fun c => c.sticky) :
    l.clearWords = [causeWord l.causes, causeWord sticky, word l.flushed] ++ wordsTime l.firstCause
      ++ [if sticky = [] then 0 else 1] := by
  have same : l.causes.filter CauseMark.sticky = sticky := h.symm
  have any : l.causes.any CauseMark.sticky = !sticky.isEmpty := by
    rw [← same]
    induction l.causes with
    | nil => rfl
    | cons c rest ih => cases sticks : c.sticky <;> simp [sticks, ih]
  rw [Link.clearWords, stickyWord, same, any]
  cases sticky <;> rfl

theorem takeClearAbort_of_empty {p : Port} {r : Request} {s : State} {sticky : List CauseMark} (none : r.words = [])
    (h : sticky = (s.link p).causes.filter fun c => c.sticky) :
    takeClearAbort p r s = (s.setLink p { s.link p with
        causes := sticky
        flushed := 0
        firstCause := if sticky = [] then Option.none else (s.link p).firstCause }).reply p r.tag .done
      ([causeWord (s.link p).causes, causeWord sticky, word (s.link p).flushed]
        ++ wordsTime (s.link p).firstCause ++ [if sticky = [] then 0 else 1]) := by
  rw [takeClearAbort, if_neg (by simp [none]), cleared_eq h, clearWords_eq h]

/-- CLEAR-ABORT is handed to its block on an aborted port as on any other (R194). -/
theorem take_clearAbort (s : State) (p : Port) (tag : Byte) (words : List Word) :
    take p (Command.clearAbort.request tag words) s
      = takeClearAbort p (Command.clearAbort.request tag words) (s.clearFresh p) := by
  have role : p.command Command.clearAbort.code = some .clearAbort :=
    command_of_code (by cases p <;> decide)
  have code : (Command.clearAbort.request tag words).code = Command.clearAbort.code := rfl
  simp [take, code, role, takeCommand]

/-- Settles O23: ABORT on an idle port; CLEAR-ABORT as it arrives, and as it leaves the queue. -/
theorem abortAndClearAbortMoveThePortInAndOutOfAbort : Obligations.AbortAndClearAbortMoveThePortInAndOutOfAbort := by
  refine ⟨fun s p tag a u idle handed entered => ?_, fun s p tag a sticky o handed stays => ?_,
    fun s p tag rest sticky bounded legal waiting free room others stays => ?_⟩
  · have link : a.link p = { s.link p with
        selectLow := false
        frame := none
        lost := false
        fresh := false
        sdo := s.statusByte p :: List.replicate 2 0 } := by
      rw [handed]
      exact accepted_link ..
    have row : (Instr.abort p tag []).requestOf = some (p, Command.abort.request tag []) := rfl
    have taken := takeAbort_of_empty (r := Command.abort.request tag []) (s := a) (p := p) rfl
      (by rw [link]; exact idle.empty p) (by rw [link]; exact idle.free)
    have flushed : (a.link p).flushed = (s.link p).flushed := by rw [link]
    have now : a.lineTime = s.lineTime := by rw [handed]; rfl
    rw [exec_handed row idle (Nat.zero_le _) (by cases p <;> decide) (by cases p <;> decide), ← handed]
    rw [flushed, now, ← entered] at taken
    exact congrArg Host.Outcome.next taken
  · have link : a.link p = { s.link p with
        selectLow := false
        frame := none
        lost := false
        fresh := false
        sdo := s.statusByte p :: List.replicate 2 0 } := by
      rw [handed]
      exact accepted_link ..
    have imm : p.isImmediate Command.clearAbort.code = false := by cases p <;> decide
    have arrived := arrive_open o (r := Command.clearAbort.request tag []) (Nat.zero_le _) Command.clearAbort.code_ne_zero
      imm
    have taken := takeClearAbort_of_empty (r := Command.clearAbort.request tag []) (s := a) (p := p)
      (sticky := sticky) rfl (by rw [link]; exact stays)
    have causes : (a.link p).causes = (s.link p).causes := by rw [link]
    have flushed : (a.link p).flushed = (s.link p).flushed := by rw [link]
    have first : (a.link p).firstCause = (s.link p).firstCause := by rw [link]
    rw [take_clearAbort] at arrived
    rw [causes, flushed, first, handed] at taken
    rw [handed]
    exact congrArg Host.Outcome.next (arrived.trans taken)
  · rw [settle_of_one ⟨bounded, legal⟩ waiting (canTake_of waiting free room) fun q hq => canTake_eq_false (others q hq),
      take_clearAbort]
    rw [takeClearAbort_of_empty rfl (sticky := sticky) (by simpa [State.clearFresh] using stays)]
    simp [State.clearFresh]
    rfl

/-! ## PORT_ABORT_ENTRY (R165) -/

theorem enterAbort_requests {s : State} {p : Port} (others : ∀ q, q ≠ p → (s.link q).requests = []) (c : AbortCause)
    (sticky : Bool) (q : Port) : ((s.enterAbort p c sticky).link q).requests = [] := by
  rw [enterAbort_eq]
  have after := (dispose_follows ((s.setLink p ((s.link p).aborted c sticky s.lineTime)).notify .portAborted
    [word p.number, word c.code]) p).link q
  have before : ((((s.setLink p ((s.link p).aborted c sticky s.lineTime)).notify .portAborted
      [word p.number, word c.code])).link q).requests = [] := by
    have links : ((s.setLink p ((s.link p).aborted c sticky s.lineTime)).notify .portAborted
        [word p.number, word c.code]).links = (s.setLink p ((s.link p).aborted c sticky s.lineTime)).links := by simp
    rw [link_eq, links, ← link_eq]
    by_cases hq : q = p
    · subst hq; rw [setLink_link]; rfl
    · rw [setLink_link_ne _ _ hq]; exact others q hq
  rcases after.requests with same | flushed
  · exact same.trans before
  · exact flushed

/-- Settles O24: the counted entry is a cause that reaches the port; nothing waits after it. -/
theorem haltEntryIsTakenAsAnEventOfThePort : Obligations.HaltEntryIsTakenAsAnEventOfThePort := by
  refine fun s p => ⟨fun none => ?_, fun k entries others => ⟨fun serving => ?_, fun aborted empty => ?_⟩⟩
  · refine congrArg Host.Outcome.next ?_
    simp [State.takeHaltEntry, none]
  · refine congrArg Host.Outcome.next ?_
    have othersKept : ∀ q, q ≠ p → ((s.setLink p { s.link p with haltEntries := k }).link q).requests = [] := by
      intro q hq
      rw [setLink_link_ne _ _ hq]
      exact others q hq
    have causes : ((s.setLink p { s.link p with haltEntries := k }).link p).causes = [] := by
      rw [setLink_link]
      exact serving
    simp only [State.takeHaltEntry, entries]
    rw [causeReaches_enters causes, settle_of_empty (enterAbort_requests othersKept _ _), enterAbort_eq]
    simp [Link.aborted]
    rfl
  · refine congrArg Host.Outcome.next ?_
    have isAborted : (s.setLink p { s.link p with haltEntries := k }).isAborted p = true := by
      simp [State.isAborted, aborted]
    simp only [State.takeHaltEntry, entries, State.causeReaches, isAborted, if_true]
    rw [settle_of_empty]
    · simp
    · intro q
      by_cases hq : q = p
      · subst hq; rw [setLink_link, setLink_link]; exact empty
      · rw [setLink_link_ne _ _ hq, setLink_link_ne _ _ hq]; exact others q hq

/-! ## Dispositions (R197) -/

theorem disposeClaim_of_carried (s : State) (h : Head) {c : Claim} (st : c.state = .carried) :
    s.disposeClaim h c = s := by
  simp only [State.disposeClaim, st]

/-- An entry that is not CARRIED leaves its head's claim list (R62). -/
theorem disposeClaim_claimsOf (s : State) (h : Head) {c : Claim} (st : c.state ≠ .carried) :
    (s.disposeClaim h c).claimsOf h = (s.claimsOf h).eraseP fun x => x.isFor c.die c.state := by
  have removed : (s.removeClaim h c.die c.state).claimsOf h = (s.claimsOf h).eraseP fun x => x.isFor c.die c.state := by
    cases h <;> rfl
  rw [← removed]
  unfold State.disposeClaim
  split
  · next e => rw [e]; simp [State.claimsOf]
  · next e => rw [e]; simp [State.claimsOf]
  · next e => rw [e]; simp [State.claimsOf]
  · next e => exact absurd e st

/-- The entries, taken one by one, leave the CARRIED ones in their order (R62). -/
theorem disposeClaimList_claimsOf (h : Head) (l carried : List Claim) (s : State)
    (all : ∀ c ∈ carried, c.state = .carried) (claims : s.claimsOf h = carried ++ l) :
    (l.foldl (State.disposeClaim h) s).claimsOf h = carried ++ l.filter fun c => c.state == .carried := by
  induction l generalizing carried s with
  | nil => simpa using claims
  | cons c rest ih =>
    rw [List.foldl_cons]
    by_cases st : c.state = .carried
    · have kept : ∀ x ∈ carried ++ [c], x.state = .carried := by
        intro x mem
        rcases List.mem_append.mp mem with mem | mem
        · exact all x mem
        · rw [List.mem_singleton.mp mem]; exact st
      rw [disposeClaim_of_carried s h st, ih (carried ++ [c]) s kept (by simpa using claims)]
      simp [st]
    · have passed : ∀ x ∈ carried, (fun x : Claim => x.isFor c.die c.state) x ≠ true := by
        intro x mem
        have : c.state ≠ x.state := by rw [all x mem]; exact st
        simp [Claim.isFor, Ne.symm this]
      have left : (s.disposeClaim h c).claimsOf h = carried ++ rest := by
        rw [disposeClaim_claimsOf s h st, claims, List.eraseP_append_right _ passed, List.eraseP_cons_of_pos]
        simp [Claim.isFor]
      rw [ih carried _ all left]
      simp [st]

/-- Settles O25: the dispositions by port, and the entries of a head one by one. -/
theorem abortDisposesOfTheBlocksState : Obligations.AbortDisposesOfTheBlocksState := by
  refine fun s => ⟨rfl, fun o t delivered => ?_, fun other => ?_, fun none => ?_, fun d p site column => ?_,
    fun h => ⟨by cases h <;> rfl, ?_, fun c => ⟨fun st => ?_, fun st => ?_, fun st => ?_, disposeClaim_of_carried s h⟩⟩⟩
  · simp only [State.dispose, State.disposeTable, delivered]
  · show s.disposeTable = s
    unfold State.disposeTable
    split
    · next o t delivered => exact absurd delivered (other o t)
    all_goals rfl
  · simp only [State.dispose, State.disposeDispense, none]
  · simp only [State.dispose, State.disposeDispense, site, column]
  · exact disposeClaimList_claimsOf h (s.claimsOf h) [] _ nofun rfl
  all_goals simp only [State.disposeClaim, st]

/-! ## The outputs -/

theorem bit_le_one (b : Bool) : bit b ≤ 1 := by cases b <;> decide

/-- The status byte's fields do not run into one another while at most eight replies wait (R175). -/
theorem statusByte_toNat {s : State} {p : Port} (bounded : (s.link p).replies.length ≤ 8) :
    (s.statusByte p).toNat = (s.link p).replies.length * 16 + bit (s.isAborted p) * 8 + bit (s.link p).held.isSome * 4
      + bit (s.link p).fresh * 2 + bit (s.link p).lost := by
  have := bit_le_one (s.isAborted p)
  have := bit_le_one (s.link p).held.isSome
  have := bit_le_one (s.link p).fresh
  have := bit_le_one (s.link p).lost
  rw [State.statusByte, BitVec.toNat_ofNat]
  exact Nat.mod_eq_of_lt (by omega)

theorem bit_mul (b : Bool) (n : Nat) : bit b * n = if b = true then n else 0 := by cases b <;> simp [bit]

theorem isAborted_iff (s : State) (p : Port) : s.isAborted p = true ↔ (s.link p).causes ≠ [] := by
  simp [State.isAborted]

/-- A cause set as a word has the bit of each of its causes (R191). -/
theorem causeWord_getLsbD (cs : List CauseMark) (c : AbortCause) :
    (causeWord cs).getLsbD c.code = cs.any fun m => m.cause == c := by
  have single (m : AbortCause) : (BitVec.ofNat 16 (2 ^ m.code)).getLsbD c.code = (m == c) := by
    cases m <;> cases c <;> decide
  have gathered (w : Word) : (cs.foldl (fun w c => w ||| BitVec.ofNat 16 (2 ^ c.cause.code)) w).getLsbD c.code
      = (w.getLsbD c.code || cs.any fun m => m.cause == c) := by
    induction cs generalizing w with
    | nil => simp
    | cons m rest ih => rw [List.foldl_cons, ih, BitVec.getLsbD_or, single, List.any_cons, Bool.or_assoc]
  rw [causeWord, gathered]
  simp

theorem waferIsLow_iff (s : State) :
    s.waferIsLow = true ↔ (∃ w, s.map.phase = .ready w) ∧ s.map.eligible ≤ s.settings.waferLow := by
  unfold State.waferIsLow
  split <;> simp [*]

theorem trackMoves_iff (s : State) : (s.track.phase != .still) = true
    ↔ ∃ n, s.track.phase = .draining n ∨ s.track.phase = .moving n := by
  cases s.track.phase <;> simp

/-- Settles O26: each output, read off its definition. -/
theorem statusByteAttnAndLampsFollowTheState : Obligations.StatusByteAttnAndLampsFollowTheState := by
  refine ⟨fun s p k => ⟨fun bounded => ?_, fun running => ?_, fun running => ?_, fun reset => ?_, fun running => ?_,
    causeWord_getLsbD⟩, fun s => ⟨rfl, rfl, rfl, rfl, rfl, rfl, ?_, ?_, ?_, waferIsLow_iff s, Iff.rfl, ?_, ?_, ?_, ?_, Iff.rfl,
      ?_, ?_, trackMoves_iff s, ?_⟩⟩
  · simp only [statusByte_toNat bounded, bit_mul]
    simp only [bit_eq_ite, isAborted_iff, Option.isSome_iff_ne_none, ne_eq, ite_not]
  · simp only [State.attn, running, Bool.not_false, Bool.true_and, Bool.or_eq_true, Bool.and_eq_true, decide_eq_true_eq,
      isAborted_iff, beq_iff_eq, or_assoc, and_assoc, Bool.not_eq_true', List.isEmpty_eq_false_iff]
    rfl
  · simp only [State.lampLevel, running, Bool.not_false, Bool.true_and, Bool.bne_eq_xor]
    rfl
  · simp [State.attn, State.lampLevel, State.sdoDriven, reset]
  · simp [State.sdoDriven, running]
  · simp [State.lampSource]
  · simp [State.lampSource]
  · simp [State.lampSource]
  · simp [State.lampSource, State.logIsHigh, Config.logHigh]
  · have every (q : Port) : q ∈ Port.all := by cases q <;> decide
    simp only [State.lampSource, List.any_eq_true, isAborted_iff, every, true_and]
  · simp [State.lampSource, Option.isSome_iff_ne_none]
  · simp [State.lampSource, Option.isSome_iff_ne_none]
  · simp [State.lampSource, Option.isSome_iff_ne_none]
  · simp [State.lampSource]
  · simp [State.lampSource]

/-! ## Transitions of die state (R2, R3, R13, R15, R20, R21) -/

theorem moveDie_of_other_wafer {s : State} {wafer : Word} (other : ∀ w, s.map.phase = .ready w → w.wafer ≠ wafer)
    (i : Nat) (new : DieState) (cause : Option DieCause) (head : Option Head) :
    s.moveDie wafer i new cause head = s :=
  moveDie_of_no_record (fun w _ ready named => absurd named (other w ready)) new cause head

theorem evalWaferLow_of_above {s : State} {w : WaferInfo} (ready : s.map.phase = .ready w)
    (above : s.settings.waferLow < s.map.eligible) : s.evalWaferLow = s.setMap { s.map with waferLow := false } := by
  simp [State.evalWaferLow, ready, Nat.not_le.mpr above]

theorem evalWaferLow_of_latched {s : State} {w : WaferInfo} (ready : s.map.phase = .ready w)
    (low : s.map.eligible ≤ s.settings.waferLow) (latched : s.map.waferLow = true) : s.evalWaferLow = s := by
  simp [State.evalWaferLow, ready, low, latched]

theorem evalWaferLow_of_low {s : State} {w : WaferInfo} (ready : s.map.phase = .ready w)
    (low : s.map.eligible ≤ s.settings.waferLow) (clear : s.map.waferLow = false) :
    s.evalWaferLow = (s.setMap { s.map with waferLow := true }).notify .waferLow
      [w.wafer, word s.map.eligible, word s.settings.waferLow] := by
  simp [State.evalWaferLow, ready, low, clear]

/-- A die that enters AVAILABLE raises the eligible-available count when its bin is selected (R13). -/
def State.withAvailable (s : State) (bin : Nat) : State :=
  if s.settings.binSet.getLsbD bin then (s.setMap { s.map with eligible := s.map.eligible + 1 }).evalWaferLow else s

theorem enterAvailable_of_room {s : State} (room : s.map.returned.length < 16) (i bin : Nat) :
    s.enterAvailable i bin
      = (s.setMap { s.map with returned := s.map.returned ++ [i], waferEmpty := false }).withAvailable bin := by
  have capacity : Config.returnedCapacity = 16 := rfl
  simp only [State.enterAvailable, capacity, if_pos room]
  rfl

theorem enterAvailable_of_full {s : State} (full : ¬ s.map.returned.length < 16) (i bin : Nat) :
    s.enterAvailable i bin = (s.setMap { s.map with rescan := true, waferEmpty := false }).withAvailable bin := by
  have capacity : Config.returnedCapacity = 16 := rfl
  simp only [State.enterAvailable, capacity, if_neg full]
  rfl

/-- Settles O27: a transition in its parts, by whether the die leaves or enters AVAILABLE. -/
theorem dieTransitionMovesRecordCountsAndQueue : Obligations.DieTransitionMovesRecordCountsAndQueue := by
  refine fun s wafer i new cause head => ⟨fun other => moveDie_of_other_wafer other i new cause head,
    fun w d m ready named found moved => ⟨fun old into => ?_, fun old into => ?_, fun old into => ?_, ?_, ?_, ?_⟩⟩
  · subst named moved
    rw [moveDie_of_record ready found, State.withRecordEntered, if_neg into, State.withRecordLeft, if_neg old]
    rfl
  · subst named moved
    rw [moveDie_of_record ready found, State.withRecordEntered, if_neg into, State.withRecordLeft, if_pos old]
    rfl
  · subst named moved
    rw [moveDie_of_record ready found, State.withRecordEntered, if_pos into, State.withRecordLeft, if_neg old]
    by_cases room : s.map.returned.length < 16
    · rw [enterAvailable_of_room (s := s.setMap (s.map.moved i d new cause head)) room]
      simp only [if_pos room]
      rfl
    · rw [enterAvailable_of_full (s := s.setMap (s.map.moved i d new cause head)) room]
      simp only [if_neg room]
      rfl
  · exact evalWaferLow_of_above ready
  · exact evalWaferLow_of_latched ready
  · subst named
    exact evalWaferLow_of_low ready

/-! ## Targets, travel and drift (R25 to R28, R33) -/

theorem divRound_neg (u : Nat) (z : Int) : divRound u (-z) = -divRound u z := by
  rw [divRound, divRound, Int.sign_neg, Int.natAbs_neg, Int.neg_mul]

/-- On what is not negative, rounding half away from zero adds half a unit and rounds down. -/
theorem divRound_of_nonneg {u : Nat} (pos : 0 < u) {z : Int} (nonneg : 0 ≤ z) :
    divRound u z = (z + (u / 2 : Nat)) / u := by
  obtain ⟨n, rfl⟩ := Int.eq_ofNat_of_zero_le nonneg
  cases n with
  | zero =>
    have half : u / 2 / u = 0 := Nat.div_eq_of_lt (Nat.div_lt_self pos (by decide))
    simp only [divRound, Int.natCast_zero, Int.sign_zero, Int.zero_mul, Int.zero_add]
    exact_mod_cast half.symm
  | succ n =>
    have sign : ((n + 1 : Nat) : Int).sign = 1 := Int.sign_eq_one_of_pos (by omega)
    rw [divRound, sign, Int.one_mul, Int.natAbs_natCast]
    norm_cast

theorem axisBits_eq (least greatest z : Int) : axisBits least greatest z
    = if greatest < least then 3 else if z < least then 1 else if greatest < z then 2 else 0 := by
  unfold axisBits
  split
  · rfl
  · by_cases below : z < least <;> by_cases above : greatest < z <;> (simp [below, above, bit]; try omega)

/-- The two bits of an axis (R28). -/
theorem axisBits_spec (least greatest z : Int) : axisBits least greatest z < 4
    ∧ (axisBits least greatest z = 0 ↔ least ≤ z ∧ z ≤ greatest)
    ∧ ((axisBits least greatest z).testBit 0 = true ↔ z < least ∨ greatest < least)
    ∧ ((axisBits least greatest z).testBit 1 = true ↔ greatest < z ∨ greatest < least) := by
  rw [axisBits_eq]
  split
  · next empty => simp [empty, Nat.testBit]; omega
  · split
    · simp [*, Nat.testBit]; omega
    · split
      · simp [*, Nat.testBit]
      · simp [*, Nat.testBit]; omega

/-- Two axes in one word do not run into each other. -/
theorem testBit_axes : ∀ a < 4, ∀ b < 4, (a + b * 4).testBit 0 = a.testBit 0 ∧ (a + b * 4).testBit 1 = a.testBit 1
    ∧ (a + b * 4).testBit 2 = b.testBit 0 ∧ (a + b * 4).testBit 3 = b.testBit 1 ∧ a + b * 4 < 16 := by
  decide

theorem clampDrift_eq (bound : Nat) (d : Int) : clampDrift bound d = max (-(bound : Int)) (min bound d) := by
  unfold clampDrift
  split
  · omega
  · split <;> omega

/-- Settles O28: the rounding by sign, the axis word by its two axes, the drift by its clamp. -/
theorem targetDriftAndReachFollowTheArithmetic : Obligations.TargetDriftAndReachFollowTheArithmetic := by
  refine ⟨fun t d c r => ⟨rfl, rfl⟩, fun z nonneg => ⟨divRound_of_nonneg (by decide) nonneg,
    divRound_of_nonneg (by decide) nonneg⟩, divRound_neg, fun st x y => ?_, fun s ex ey => ?_⟩
  · obtain ⟨xFits, xZero, xBelow, xAbove⟩ := axisBits_spec st.travelXMin st.travelXMax x
    obtain ⟨yFits, yZero, yBelow, yAbove⟩ := axisBits_spec st.travelYMin st.travelYMax y
    obtain ⟨bit0, bit1, bit2, bit3, fits⟩ := testBit_axes _ xFits _ yFits
    simp only [axisWord, bit0, bit1, bit2, bit3, xBelow, xAbove, yBelow, yAbove, fits, and_true]
    have zero : axisBits st.travelXMin st.travelXMax x + axisBits st.travelYMin st.travelYMax y * 4 = 0
        ↔ axisBits st.travelXMin st.travelXMax x = 0 ∧ axisBits st.travelYMin st.travelYMax y = 0 := by omega
    rw [zero, xZero, yZero, and_assoc]
  · simp only [State.absorb, driftStep, clampDrift_eq]

end Sys2Proof.Machine
end

section
/-! THEOREMS. The head ports' RESERVE, RELEASE and DISCARD (O29 to O32). Each request has one lemma that hands it to its block and
one equation for each case of the block. -/

namespace Sys2Proof.Machine

open Sys2Proof

/-! ## The head requests on their port -/

section

variable {s : State} {h : Head} {tag : Byte} {words : List Word}

theorem exec_reserve (idle : s.Idle h.port) (fits : words.length ≤ 24) : exec (.reserve h tag words) s
    = .next (takeReserve h (Command.reserve.request tag words) (s.handed h.port .reserve tag words)) := by
  cases h <;> exact exec_handed (p := Head.port _) (c := .reserve) rfl idle fits (by decide) (by decide)

theorem exec_release (idle : s.Idle h.port) (fits : words.length ≤ 24) : exec (.release h tag words) s
    = .next (takeRelease h (Command.release.request tag words) (s.handed h.port .release tag words)) := by
  cases h <;> exact exec_handed (p := Head.port _) (c := .release) rfl idle fits (by decide) (by decide)

theorem exec_discard (idle : s.Idle h.port) (fits : words.length ≤ 24) : exec (.discard h tag words) s
    = .next (takeDiscard h (Command.discard.request tag words) (s.handed h.port .discard tag words)) := by
  cases h <;> exact exec_handed (p := Head.port _) (c := .discard) rfl idle fits (by decide) (by decide)

end

/-! ## RESERVE taken (R42) -/

section

variable {s t : State} {h : Head} {r : Request} {w : WaferInfo}

theorem takeReserve_of_full (none : r.words = []) (run : s.mode = .run) (full : s.settings.lookahead ≤ s.openClaims h) :
    takeReserve h r s = s.reply h.port r.tag .full [] := by
  simp [takeReserve, none, run, full]

theorem tryReserve_of_waiting (waits : (∀ w, s.map.phase ≠ .ready w) ∨ 256 ≤ s.logSum) : s.tryReserve h = none := by
  unfold State.tryReserve
  rcases waits with notReady | exhausted
  · rw [readyWafer_of_not_ready notReady]
  · have logExhausted : s.logExhausted = true := decide_eq_true exhausted
    split <;> simp [logExhausted]

theorem tryReserve_of_ready (ready : s.map.phase = .ready w) (room : s.logSum < 256) :
    s.tryReserve h = some (s.serveReserve h w) := by
  have logExhausted : s.logExhausted = false := decide_eq_false (Nat.not_le.mpr room)
  simp [State.tryReserve, readyWafer_of_ready ready, logExhausted]

theorem takeReserve_of_waiting (none : r.words = []) (run : s.mode = .run) (below : s.openClaims h < s.settings.lookahead)
    (waits : (∀ w, s.map.phase ≠ .ready w) ∨ 256 ≤ s.logSum) :
    takeReserve h r s = if s.settings.reserveWait = 0 then s.reply h.port r.tag .timeout []
      else s.hold h.port r (some (after s.lineTime s.settings.reserveWait)) := by
  simp [takeReserve, none, run, Nat.not_le.mpr below, tryReserve_of_waiting waits]

theorem takeReserve_of_ready (none : r.words = []) (run : s.mode = .run) (below : s.openClaims h < s.settings.lookahead)
    (ready : s.map.phase = .ready w) (room : s.logSum < 256) :
    takeReserve h r s = (s.serveReserve h w).2.reply h.port r.tag (s.serveReserve h w).1.code (s.serveReserve h w).1.words := by
  simp [takeReserve, none, run, Nat.not_le.mpr below, tryReserve_of_ready ready room]

/-- A selection leaves the claim lists alone. -/
theorem selectDie_claimsOf {o : Option Nat} (chosen : selectDie w s = (o, t)) (x : Head) : t.claimsOf x = s.claimsOf x := by
  have claims : (selectDie w s).2.claims = s.claims := by simp
  rw [chosen] at claims
  rw [State.claimsOf, claims, State.claimsOf]

/-- The die that a selection finds is reserved, and its entry joins the head's claim list (R19, R42). -/
theorem serveReserve_of_found {i : Nat} {d : DieRecord} (chosen : selectDie w s = (some i, t))
    (found : t.map.table[i]? = some d) :
    s.serveReserve h w = (⟨.die, [word i, w.wafer, word d.column, word d.row, word d.bin]⟩,
      (t.moveDie w.wafer i .reserved none (some h)).setClaims h (s.claimsOf h
        ++ [⟨i, w.wafer, d.column, d.row, d.bin, .reserved, d.retries, s.lineTime⟩])) := by
  have claims : (t.moveDie w.wafer i .reserved none (some h)).claimsOf h = s.claimsOf h := by
    rw [← selectDie_claimsOf chosen h, State.claimsOf, State.claimsOf]
    simp
  simp [State.serveReserve, chosen, found, claims]

/-- A selection that finds nothing (R21). -/
theorem serveReserve_of_none (chosen : selectDie w s = (none, t)) : s.serveReserve h w = (⟨.none, []⟩, t.nothingFound w) := by
  simp [State.serveReserve, chosen]

end

/-! ## Selections (R16 to R18) -/

section

variable {s u : State} {w : WaferInfo} {i : Nat} {d : DieRecord}

theorem dieEligible_iff (s : State) (d : DieRecord) :
    s.dieEligible d = true ↔ d.state = .available ∧ s.settings.binSet.getLsbD d.bin = true := by
  simp [State.dieEligible, State.binSelected]

/-- What one entry of the returned queue does to a selection (R16, R18). -/
theorem selectDie_of_queued {rest : List Nat} (queue : s.map.returned = i :: rest) :
    ((∀ e, s.map.table[i]? = some e → s.dieEligible e = false) →
        selectDie w s = selectDie w (s.setMap { s.map with returned := rest }))
      ∧ ∀ e, s.map.table[i]? = some e → s.dieEligible e = true →
        (s.candidateAxis w e = 0 → selectDie w s = (some i, s.setMap { s.map with returned := rest }))
        ∧ (s.candidateAxis w e ≠ 0 →
          selectDie w s = selectDie w ((s.setMap { s.map with returned := rest }).rejectUnreachable w i e)) := by
  rw [selectDie_queued queue]
  refine ⟨fun ineligible => ?_, fun e found eligible => ⟨fun reach => ?_, fun out => ?_⟩⟩
  · rw [tryDie_skip (s := s.setMap { s.map with returned := rest }) ineligible]
  · rw [tryDie_take (s := s.setMap { s.map with returned := rest }) found eligible reach]
  · rw [tryDie_reject (s := s.setMap { s.map with returned := rest }) found eligible out]

/-- What the die at the cursor does to a selection, the returned queue empty (R17, R18). -/
theorem selectDie_of_cursor (empty : s.map.returned = []) (inside : s.map.cursor < w.dieCount) :
    ((∀ e, s.map.table[s.map.cursor]? = some e → s.dieEligible e = false) →
        selectDie w s = selectDie w (s.setMap { s.map with cursor := s.map.cursor + 1 }))
      ∧ ∀ e, s.map.table[s.map.cursor]? = some e → s.dieEligible e = true →
        (s.candidateAxis w e = 0 →
          selectDie w s = (some s.map.cursor, s.setMap { s.map with cursor := s.map.cursor + 1 }))
        ∧ (s.candidateAxis w e ≠ 0 → selectDie w s
          = selectDie w ((s.setMap { s.map with cursor := s.map.cursor + 1 }).rejectUnreachable w s.map.cursor e)) := by
  rw [selectDie_scan empty inside]
  refine ⟨fun ineligible => ?_, fun e found eligible => ⟨fun reach => ?_, fun out => ?_⟩⟩
  · rw [tryDie_skip (s := s.setMap { s.map with cursor := s.map.cursor + 1 }) ineligible]
  · rw [tryDie_take (s := s.setMap { s.map with cursor := s.map.cursor + 1 }) found eligible reach]
  · rw [tryDie_reject (s := s.setMap { s.map with cursor := s.map.cursor + 1 }) found eligible out]

/-- The scan of a selection finds the first eligible die from the cursor on, when it is reachable (R17). -/
theorem selectDie_of_scanned (empty : s.map.returned = []) (from_ : s.map.cursor ≤ i) (inside : i < w.dieCount)
    (found : s.map.table[i]? = some d) (eligible : s.dieEligible d = true) (reach : s.candidateAxis w d = 0)
    (passed : ∀ j e, s.map.cursor ≤ j → j < i → s.map.table[j]? = some e → s.dieEligible e = false) :
    selectDie w s = (some i, s.setMap { s.map with cursor := i + 1 }) := by
  rw [selectDie_empty empty, selectScans, selectScan_found from_ (by omega) found eligible reach passed]

/-- A scan that meets no eligible die ends with its cursor past the die, and with no rescan granted finds nothing (R17). -/
theorem selectDie_of_exhausted (empty : s.map.returned = []) (flag : s.map.rescan = false)
    (cursor : s.map.cursor ≤ w.dieCount)
    (passed : ∀ j e, s.map.cursor ≤ j → s.map.table[j]? = some e → s.dieEligible e = false) :
    selectDie w s = (none, s.setMap { s.map with cursor := w.dieCount }) := by
  have scanned : selectScan w (w.dieCount - s.map.cursor) s = (none, s.setMap { s.map with cursor := w.dieCount }) := by
    have skip := selectScan_skip w (w.dieCount - s.map.cursor) s (fun j e from_ _ => passed j e from_) 0
    rw [Nat.add_zero, selectScan] at skip
    rw [skip, Nat.add_sub_cancel' cursor]
  rw [selectDie_empty empty, selectScans, scanned]
  simp [flag]

end

/-- Settles O29: a RESERVE served is a selection and its outcome; a selection goes die by die. -/
theorem reserveAnswersTheDieItSelects : Obligations.ReserveAnswersTheDieItSelects := by
  refine ⟨fun s h tag w a i d idle run below ready room handed found available selected => ?_,
    fun s h tag w t idle run below ready room => ⟨fun i d chosen found => ?_, fun chosen => ?_⟩,
    fun s w reject rejects => ⟨dieEligible_iff s, fun j rest u queue popped => ?_, fun j u empty cursor inside moved => ?_,
      fun empty past => ⟨selectDie_rescan empty past, selectDie_end empty past⟩⟩⟩
  · have eligible : s.dieEligible d = true := (dieEligible_iff s d).mpr ⟨available, selected⟩
    have served {u : State} (chosen : selectDie w a = (some i, u)) (there : u.map.table[i]? = some d) :
        exec (.reserve h tag []) s = .next (((u.moveDie w.wafer i .reserved none (some h)).setClaims h (s.claimsOf h
          ++ [⟨i, w.wafer, d.column, d.row, d.bin, .reserved, d.retries, s.lineTime⟩])).reply h.port tag .die
          [word i, w.wafer, word d.column, word d.row, word d.bin]) := by
      subst handed
      have taken := takeReserve_of_ready (s := s.handed h.port .reserve tag []) (h := h)
        (r := Command.reserve.request tag []) rfl run below ready room
      rw [serveReserve_of_found chosen there] at taken
      exact (exec_reserve idle (Nat.zero_le _)).trans (congrArg Host.Outcome.next taken)
    subst handed
    refine ⟨fun rest queue reach => ?_, fun empty from_ inside reach passed => ?_, fun rest queue out => ?_⟩
    · exact served (((selectDie_of_queued (s := s.handed h.port .reserve tag []) queue).2 d found eligible).1 reach) found
    · exact served (selectDie_of_scanned (s := s.handed h.port .reserve tag []) empty from_ inside found eligible reach
        passed) found
    · exact ((selectDie_of_queued queue).2 d found eligible).2 out
  · have taken := takeReserve_of_ready (s := s.handed h.port .reserve tag []) (h := h)
      (r := Command.reserve.request tag []) rfl run below ready room
    rw [serveReserve_of_found chosen found] at taken
    exact (exec_reserve idle (Nat.zero_le _)).trans (congrArg Host.Outcome.next taken)
  · have taken := takeReserve_of_ready (s := s.handed h.port .reserve tag []) (h := h)
      (r := Command.reserve.request tag []) rfl run below ready room
    rw [serveReserve_of_none chosen] at taken
    exact (exec_reserve idle (Nat.zero_le _)).trans (congrArg Host.Outcome.next taken)
  · subst popped
    obtain ⟨skipped, tried⟩ := selectDie_of_queued (w := w) queue
    exact ⟨skipped, fun e found eligible => ⟨(tried e found eligible).1, fun out => by
      rw [rejects]; exact (tried e found eligible).2 out⟩⟩
  · subst cursor moved
    obtain ⟨skipped, tried⟩ := selectDie_of_cursor empty inside
    exact ⟨skipped, fun e found eligible => ⟨(tried e found eligible).1, fun out => by
      rw [rejects]; exact (tried e found eligible).2 out⟩⟩

/-- Settles O30: the look-ahead, the wait, and the selection that finds nothing. -/
theorem reserveWithoutADieIsFullHeldTimedOutOrNone : Obligations.ReserveWithoutADieIsFullHeldTimedOutOrNone := by
  intro s h tag a idle run handed
  subst handed
  refine ⟨fun full => ?_, fun below waits => ?_, fun w u below ready room empty flag cursor passed moved => ?_⟩
  · exact (exec_reserve idle (Nat.zero_le _)).trans (congrArg Host.Outcome.next (takeReserve_of_full rfl run full))
  · exact (exec_reserve idle (Nat.zero_le _)).trans
      (congrArg Host.Outcome.next (takeReserve_of_waiting rfl run below waits))
  · subst moved
    have chosen := selectDie_of_exhausted (s := s.handed h.port .reserve tag []) empty flag cursor passed
    have taken := takeReserve_of_ready (s := s.handed h.port .reserve tag []) (h := h)
      (r := Command.reserve.request tag []) rfl run below ready room
    rw [serveReserve_of_none chosen] at taken
    exact (exec_reserve idle (Nat.zero_le _)).trans (congrArg Host.Outcome.next taken)

/-! ## Held RESERVE requests (R44) -/

section

variable {s : State} {h : Head}

theorem holds_of_held {p : Port} {x : Held} {code : Byte} (held : (s.link p).held = some x)
    (named : x.request.code = code) : s.holds p code = true := by
  simp [State.holds, held, named]

theorem wakeReserve_of_waiting (waits : (∀ w, s.map.phase ≠ .ready w) ∨ 256 ≤ s.logSum) : s.wakeReserve h = s := by
  simp [State.wakeReserve, tryReserve_of_waiting waits]

theorem wakeReserve_of_ready {w : WaferInfo} (holds : s.holds h.port Command.reserve.code = true)
    (ready : s.map.phase = .ready w) (room : s.logSum < 256) :
    s.wakeReserve h = (s.serveReserve h w).2.answerHeld h.port (s.serveReserve h w).1.code (s.serveReserve h w).1.words := by
  simp [State.wakeReserve, holds, tryReserve_of_ready ready room]

/-- Head B's RESERVE goes first when it was held earlier (R44). -/
theorem reserveBFirst_eq {x y : Held} (heldA : (s.link .headA).held = some x) (heldB : (s.link .headB).held = some y)
    (nameA : x.request.code = Command.reserve.code) (nameB : y.request.code = Command.reserve.code) :
    s.reserveBFirst = earlier y.since x.since := by
  simp [State.reserveBFirst, holds_of_held heldA nameA, holds_of_held heldB nameB, State.heldSince, heldA, heldB]

end

/-- Settles O31: one head's re-evaluation, and the order of the two. -/
theorem heldReservesAreReevaluatedInOrder : Obligations.HeldReservesAreReevaluatedInOrder := by
  refine fun s => ⟨wakeReserves_of_not_held, fun h holds => ⟨wakeReserve_of_waiting, fun w ready room =>
    wakeReserve_of_ready holds ready room⟩, fun x y heldA heldB nameA nameB => ⟨fun before => ?_, fun notBefore => ?_⟩⟩
  · have first : s.reserveBFirst = true := by
      rw [reserveBFirst_eq heldA heldB nameA nameB]
      exact decide_eq_true before
    simp [State.wakeReserves, first]
  · have second : s.reserveBFirst = false := by
      rw [reserveBFirst_eq heldA heldB nameA nameB]
      exact decide_eq_false (Nat.not_le.mpr notBefore)
    simp [State.wakeReserves, second]

/-! ## RELEASE and DISCARD taken (R47, R48) -/

section

variable {s : State} {h : Head} {r : Request} {die : Word}

theorem working_of {s : State} (open_ : s.mode = .run ∨ s.mode = .drain) : s.working = true := by
  rcases open_ with run | drain <;> simp [State.working, *]

theorem takeRelease_of_none (words : r.words = [die]) (working : s.working = true)
    (none : s.findClaim h die.toNat .reserved = Option.none) : takeRelease h r s = s.reply h.port r.tag .state [] := by
  simp [takeRelease, words, working, natAt, wordAt, none]

theorem takeRelease_of_claim {c : Claim} (words : r.words = [die]) (working : s.working = true)
    (claim : s.findClaim h die.toNat .reserved = some c) : takeRelease h r s
      = (((s.removeClaim h c.die .reserved).moveDie c.wafer c.die .available none none).reply h.port r.tag .done
        []).wakeReserves := by
  simp [takeRelease, words, working, natAt, wordAt, claim]

theorem takeDiscard_of_none {disposition : Word} (words : r.words = [die, disposition]) (known : disposition.toNat ≤ 1)
    (working : s.working = true) (none : s.findClaim h die.toNat .carried = Option.none) :
    takeDiscard h r s = s.reply h.port r.tag .state [] := by
  simp [takeDiscard, words, working, natAt, wordAt, none, Nat.not_lt.mpr known]

theorem takeDiscard_of_dropped {c : Claim} (words : r.words = [die, 0]) (working : s.working = true)
    (claim : s.findClaim h die.toNat .carried = some c) : takeDiscard h r s
      = ((((((s.removeClaim h c.die .carried).moveDie c.wafer c.die .lost (some .dropped) none).notify .dieLost
        [word c.die, c.wafer, 9, word h.code]).releaseSite h).reply h.port r.tag .done [8]).siteWakes).wakeReserves := by
  simp [takeDiscard, words, working, natAt, wordAt, claim, discardOutcome, discardNotice]
  rfl

theorem takeDiscard_of_dumped {c : Claim} (words : r.words = [die, 1]) (working : s.working = true)
    (claim : s.findClaim h die.toNat .carried = some c) : takeDiscard h r s
      = ((((((s.removeClaim h c.die .carried).moveDie c.wafer c.die .rejected (some .dumped) none).notify .dieRejected
        [word c.die, c.wafer, 7, word h.code]).releaseSite h).reply h.port r.tag .done [6]).siteWakes).wakeReserves := by
  simp [takeDiscard, words, working, natAt, wordAt, claim, discardOutcome, discardNotice]
  rfl

end

/-- Settles O32: a RELEASE by its RESERVED entry, a DISCARD by its CARRIED entry and its disposition. -/
theorem releaseAndDiscardGiveUpTheDie : Obligations.ReleaseAndDiscardGiveUpTheDie := by
  intro s h tag die a idle open_
  have working : s.working = true := working_of open_
  refine ⟨fun handed => ⟨fun none => ?_, fun c claim => ?_⟩, fun disposition known handed none => ?_,
    fun c claim => ⟨fun handed => ?_, fun handed => ?_⟩⟩ <;> subst handed
  · exact (exec_release idle (by simp)).trans (congrArg Host.Outcome.next (takeRelease_of_none rfl working none))
  · exact (exec_release idle (by simp)).trans (congrArg Host.Outcome.next (takeRelease_of_claim rfl working claim))
  · exact (exec_discard idle (by simp)).trans (congrArg Host.Outcome.next (takeDiscard_of_none rfl known working none))
  · exact (exec_discard idle (by simp)).trans (congrArg Host.Outcome.next (takeDiscard_of_dropped rfl working claim))
  · exact (exec_discard idle (by simp)).trans (congrArg Host.Outcome.next (takeDiscard_of_dumped rfl working claim))

end Sys2Proof.Machine
end

section
/-! THEOREMS. The pick station, PICKED and PICK-FAIL, PLACE and the choice of a bond site (O33 to O36). -/

namespace Sys2Proof.Machine

open Sys2Proof

/-! ## The requests on their port -/

section

variable {s : State} {h : Head} {tag : Byte} {words : List Word}

theorem exec_pick (idle : s.Idle h.port) (fits : words.length ≤ 24) : exec (.pick h tag words) s
    = .next (takePick h (Command.pick.request tag words) (s.handed h.port .pick tag words)) := by
  cases h <;> exact exec_handed (p := Head.port _) (c := .pick) rfl idle fits (by decide) (by decide)

theorem exec_picked (idle : s.Idle h.port) (fits : words.length ≤ 24) : exec (.picked h tag words) s
    = .next (takePicked h (Command.picked.request tag words) (s.handed h.port .picked tag words)) := by
  cases h <;> exact exec_handed (p := Head.port _) (c := .picked) rfl idle fits (by decide) (by decide)

theorem exec_pickFail (idle : s.Idle h.port) (fits : words.length ≤ 24) : exec (.pickFail h tag words) s
    = .next (takePickFail h (Command.pickFail.request tag words) (s.handed h.port .pickFail tag words)) := by
  cases h <;> exact exec_handed (p := Head.port _) (c := .pickFail) rfl idle fits (by decide) (by decide)

theorem exec_place (idle : s.Idle h.port) (fits : words.length ≤ 24) : exec (.place h tag words) s
    = .next (takePlace h (Command.place.request tag words) (s.handed h.port .place tag words)) := by
  cases h <;> exact exec_handed (p := Head.port _) (c := .place) rfl idle fits (by decide) (by decide)

theorem exec_awaitOrder (idle : s.Idle .table) (fits : words.length ≤ 24) : exec (.awaitOrder tag words) s
    = .next (takeAwaitOrder (Command.awaitOrder.request tag words) (s.handed .table .awaitOrder tag words)) :=
  exec_handed (c := .awaitOrder) rfl idle fits (by decide) (by decide)

end

/-! ## PICK, the grant and the delivery (R50 to R53) -/

section

variable {s : State} {h : Head} {r : Request} {die : Word}

theorem pickBlocked_iff (s : State) (h : Head) : s.pickBlocked h = true ↔ ∃ c ∈ s.claimsOf h, c.state ≠ .reserved := by
  simp [State.pickBlocked]

theorem takePick_of_refused (words : r.words = [die]) (working : s.working = true)
    (refused : s.findClaim h die.toNat .reserved = none ∨ ∃ c ∈ s.claimsOf h, c.state ≠ .reserved) :
    takePick h r s = s.reply h.port r.tag .state [] := by
  have named : natAt r.words 0 = die.toNat := by simp [words, natAt, wordAt]
  rw [takePick, if_neg (by simp [words]), if_neg (by simp [working]), named]
  rcases refused with none | blocked
  · rw [none]
  · split
    · rfl
    · rw [if_pos ((pickBlocked_iff s h).mpr blocked)]

theorem takePick_of_claim {c : Claim} (words : r.words = [die]) (working : s.working = true)
    (claim : s.findClaim h die.toNat .reserved = some c) (alone : ∀ x ∈ s.claimsOf h, x.state = .reserved) :
    takePick h r s = ((s.hold h.port r none).setArbiter { s.arbiter with
      waiting := s.arbiter.waiting ++ [⟨h, c.die⟩] }).stationWakes := by
  have open_ : ¬ s.pickBlocked h = true := by
    rw [pickBlocked_iff]
    rintro ⟨x, mem, other⟩
    exact other (alone x mem)
  simp [takePick, words, working, natAt, wordAt, claim, open_]

/-- A grant of the oldest entry whose die is in travel (R51). -/
theorem applyGrants_of_reachable {e : Waiter} {rest : List Waiter} {w : WaferInfo} {d : DieRecord}
    (free : s.arbiter.station = .free) (waiting : s.arbiter.waiting = e :: rest) (ready : s.map.phase = .ready w)
    (found : s.map.table[e.die]? = some d) (reach : s.candidateAxis w d = 0) :
    s.applyGrants = (s.setArbiter { s.arbiter with waiting := rest }).grantReachable e w d := by
  have readyThere : (s.setArbiter { s.arbiter with waiting := rest }).readyWafer = some w := readyWafer_of_ready ready
  have foundThere : (s.setArbiter { s.arbiter with waiting := rest }).map.table[e.die]? = some d := found
  have reachThere : (s.setArbiter { s.arbiter with waiting := rest }).candidateAxis w d = 0 := reach
  rw [State.applyGrants, if_pos free, waiting, grantEntries]
  simp only [readyThere, foundThere, reachThere, if_true]

/-- A grant of the oldest entry whose die is out of travel goes on with the next entry (R52). -/
theorem applyGrants_of_unreachable {e : Waiter} {rest : List Waiter} {w : WaferInfo} {d : DieRecord}
    (free : s.arbiter.station = .free) (waiting : s.arbiter.waiting = e :: rest) (ready : s.map.phase = .ready w)
    (found : s.map.table[e.die]? = some d) (out : s.candidateAxis w d ≠ 0) :
    s.applyGrants = ((s.setArbiter { s.arbiter with waiting := rest }).grantUnreachable e w d).applyGrants := by
  have readyThere : (s.setArbiter { s.arbiter with waiting := rest }).readyWafer = some w := readyWafer_of_ready ready
  have foundThere : (s.setArbiter { s.arbiter with waiting := rest }).map.table[e.die]? = some d := found
  have outThere : (s.setArbiter { s.arbiter with waiting := rest }).candidateAxis w d ≠ 0 := out
  have arbiter : ((s.setArbiter { s.arbiter with waiting := rest }).grantUnreachable e w d).arbiter
      = { s.arbiter with waiting := rest } := by simp
  rw [State.applyGrants, if_pos free, waiting, grantEntries]
  simp only [readyThere, foundThere, if_neg outThere]
  rw [State.applyGrants, arbiter, if_pos free]

theorem grantReachable_eq (s : State) (e : Waiter) (w : WaferInfo) (d : DieRecord) :
    s.grantReachable e w d = (((s.moveDie w.wafer e.die .staging none (some e.head)).moveClaim e.head e.die .reserved
      .staging).setArbiter { s.arbiter with
        station := .ordered ⟨e.die, w.wafer, e.head, targetX w.transform s.drift d.column d.row,
          targetY w.transform s.drift d.column d.row⟩ }).deliver := by
  have arbiter : ((s.moveDie w.wafer e.die .staging none (some e.head)).moveClaim e.head e.die .reserved .staging).arbiter
      = s.arbiter := by simp
  simp only [State.grantReachable, arbiter]

theorem deliver_of_held {o : Order} {x : Held} (ordered : s.arbiter.station = .ordered o)
    (held : (s.link .table).held = some x) (named : x.request.code = Command.awaitOrder.code) :
    s.deliver = (s.setArbiter { s.arbiter with
        station := .delivered o s.lineTime
        presentTimer := some (s.lineTime + BitVec.ofNat 32 s.settings.presentLimit) }).setLink .table
      ((s.link .table).answer x .order ([word o.die, o.wafer] ++ wordsInt o.x ++ wordsInt o.y)) := by
  have heldThere (a : Arbiter) : ((s.setArbiter a).link .table).held = some x := held
  simp only [State.deliver, ordered, holds_of_held held named, if_true, answerHeld_of_held (heldThere _)]
  rfl

theorem deliver_of_not_ordered (other : ∀ o, s.arbiter.station ≠ .ordered o) : s.deliver = s := by
  unfold State.deliver
  split
  · next o ordered => exact absurd ordered (other o)
  all_goals rfl

end

theorem tableOpen_of {s : State} (open_ : s.mode = .setup ∨ s.mode = .run ∨ s.mode = .drain) : s.tableOpen = true := by
  rcases open_ with mode | mode | mode <;> simp [State.tableOpen, mode]

theorem takeAwaitOrder_of_open {s : State} {r : Request} (none : r.words = []) (open_ : s.tableOpen = true) :
    takeAwaitOrder r s = (s.hold .table r Option.none).deliver := by
  simp [takeAwaitOrder, none, open_]

/-- Settles O33: PICK, one grant at a time, the delivery, and AWAIT-ORDER. -/
theorem pickWaitsForTheStationAndAwaitOrderForTheOrder : Obligations.PickWaitsForTheStationAndAwaitOrderForTheOrder := by
  refine ⟨fun s h tag die a idle mode handed => ⟨fun refused => ?_, fun c claim alone => ?_⟩, fun s still => ?_,
    fun s e rest w d u free waiting ready found popped => ⟨fun reach => ?_, fun out => ?_⟩,
    fun s o x ordered held named => deliver_of_held ordered held named, fun s other => deliver_of_not_ordered other,
    fun s tag a idle mode handed => ?_⟩
  · subst handed
    exact (exec_pick idle (by simp)).trans (congrArg Host.Outcome.next (takePick_of_refused rfl (working_of mode) refused))
  · subst handed
    exact (exec_pick idle (by simp)).trans
      (congrArg Host.Outcome.next (takePick_of_claim rfl (working_of mode) claim alone))
  · rcases still with busy | empty
    · exact applyGrants_of_not_free busy
    · exact applyGrants_of_empty empty
  · rw [popped, applyGrants_of_reachable free waiting ready found reach, grantReachable_eq]
    rfl
  · rw [popped, applyGrants_of_unreachable free waiting ready found out]
    rfl
  · subst handed
    exact (exec_awaitOrder idle (by simp)).trans (congrArg Host.Outcome.next (takeAwaitOrder_of_open rfl (tableOpen_of mode)))

/-! ## PICKED and PICK-FAIL (R56, R57) -/

section

variable {s : State} {h : Head} {r : Request} {die : Word} {c : Claim}

theorem takePicked_of_none (words : r.words = [die]) (working : s.working = true)
    (none : s.findClaim h die.toNat .presented = Option.none) : takePicked h r s = s.reply h.port r.tag .state [] := by
  simp [takePicked, words, working, natAt, wordAt, none]

theorem takePicked_of_claim (words : r.words = [die]) (working : s.working = true)
    (claim : s.findClaim h die.toNat .presented = some c) : takePicked h r s
      = ((((s.moveDie c.wafer c.die .carried none (some h)).moveClaim h c.die .presented .carried).freeStation h).reply
        h.port r.tag .done []).stationWakes := by
  simp [takePicked, words, working, natAt, wordAt, claim]

theorem takePickFail_of_none {reason : Word} (words : r.words = [die, reason]) (known : reason.toNat ≤ 1)
    (working : s.working = true) (none : s.findClaim h die.toNat .presented = Option.none) :
    takePickFail h r s = s.reply h.port r.tag .state [] := by
  simp [takePickFail, words, working, natAt, wordAt, none, Nat.not_lt.mpr known]

theorem takePickFail_of_damaged (words : r.words = [die, 1]) (working : s.working = true)
    (claim : s.findClaim h die.toNat .presented = some c) : takePickFail h r s
      = (((s.rejectClaimed h c.die c.wafer .presented .damaged).freeStation h).reply h.port r.tag .done
        [word DieState.rejected.code, word c.retries]).stationWakes := by
  simp [takePickFail, words, working, natAt, wordAt, claim]

theorem takePickFail_of_retry (words : r.words = [die, 0]) (working : s.working = true)
    (claim : s.findClaim h die.toNat .presented = some c) (left : c.retries < s.settings.pickRetries) : takePickFail h r s
      = (((s.retryPick h c).freeStation h).reply h.port r.tag .done
        [word DieState.reserved.code, word (c.retries + 1)]).stationWakes := by
  simp [takePickFail, words, working, natAt, wordAt, claim, left]

theorem takePickFail_of_last (words : r.words = [die, 0]) (working : s.working = true)
    (claim : s.findClaim h die.toNat .presented = some c) (spent : s.settings.pickRetries ≤ c.retries) :
    takePickFail h r s
      = ((((s.setRetries c.wafer c.die (min 3 (c.retries + 1))).rejectClaimed h c.die c.wafer .presented
          .pickFailed).freeStation h).reply h.port r.tag .done
        [word DieState.rejected.code, word (min 3 (c.retries + 1))]).stationWakes := by
  simp [takePickFail, words, working, natAt, wordAt, claim, Nat.not_lt.mpr spent]

end

/-- Settles O34: each report by the PRESENTED entry, its reason and its retries. -/
theorem pickedAndPickFailEndThePresentation : Obligations.PickedAndPickFailEndThePresentation := by
  intro s h tag die a idle mode
  have working : s.working = true := working_of mode
  refine ⟨fun none => ⟨fun handed => ?_, fun reason known handed => ?_⟩,
    fun c claim => ⟨fun handed => ?_, fun handed => ?_, fun handed left => ?_, fun handed spent => ?_⟩⟩ <;> subst handed
  · exact (exec_picked idle (by simp)).trans (congrArg Host.Outcome.next (takePicked_of_none rfl working none))
  · exact (exec_pickFail idle (by simp)).trans (congrArg Host.Outcome.next (takePickFail_of_none rfl known working none))
  · exact (exec_picked idle (by simp)).trans (congrArg Host.Outcome.next (takePicked_of_claim rfl working claim))
  · exact (exec_pickFail idle (by simp)).trans (congrArg Host.Outcome.next (takePickFail_of_damaged rfl working claim))
  · exact (exec_pickFail idle (by simp)).trans (congrArg Host.Outcome.next (takePickFail_of_retry rfl working claim left))
  · exact (exec_pickFail idle (by simp)).trans (congrArg Host.Outcome.next (takePickFail_of_last rfl working claim spent))

/-! ## PLACE (R116 to R118) -/

/-- A PLACE joins the placer queue, which is served at once (R116). -/
def State.queuedPlacer (s : State) (h : Head) (r : Request) (c : Claim) : State :=
  ((s.hold h.port r none).setPlacement { s.placement with
    queue := s.placement.queue ++ [⟨h, c.die, c.wafer⟩] }).servePlacers

section

variable {s : State} {h : Head} {r : Request} {die : Word}

theorem takePlace_of_refused (words : r.words = [die]) (working : s.working = true)
    (refused : s.findClaim h die.toNat .carried = none ∨ s.assignedOf h ≠ none) :
    takePlace h r s = s.reply h.port r.tag .state [] := by
  have named : natAt r.words 0 = die.toNat := by simp [words, natAt, wordAt]
  rw [takePlace, if_neg (by simp [words]), if_neg (by simp [working]), named]
  rcases refused with none | assigned
  · rw [none]
  · split
    · rfl
    · rw [if_pos (Option.isSome_iff_ne_none.mpr assigned)]

theorem takePlace_of_claim {c : Claim} (words : r.words = [die]) (working : s.working = true)
    (claim : s.findClaim h die.toNat .carried = some c) (free : s.assignedOf h = none) :
    takePlace h r s = if (s.queuedPlacer h r c).holds h.port Command.place.code then
        if (s.queuedPlacer h r c).settings.placeWait = 0 then
          ((s.queuedPlacer h r c).removePlacer h).answerHeld h.port .timeout []
        else (s.queuedPlacer h r c).startWait h.port
          (after (s.queuedPlacer h r c).lineTime (s.queuedPlacer h r c).settings.placeWait)
      else s.queuedPlacer h r c := by
  have some_ : (s.assignedOf h).isSome = false := by rw [free]; rfl
  simp only [takePlace, words, List.length_singleton, ne_eq, not_true_eq_false, if_false, working, Bool.not_true,
    Bool.false_eq_true, natAt, wordAt, List.getD_cons_zero, claim, some_]
  rfl

theorem queuedPlacer_kept (s : State) (h : Head) (r : Request) (c : Claim) :
    (s.queuedPlacer h r c).settings = s.settings ∧ (s.queuedPlacer h r c).lineTime = s.lineTime := by
  simp [State.queuedPlacer]

/-- What the head's port still holds after the serving is its PLACE (R118). -/
theorem queuedPlacer_held {c : Claim} {x : Held} (place : r.code = Command.place.code)
    (held : ((s.queuedPlacer h r c).link h.port).held = some x) : x.request.code = Command.place.code := by
  have follows := (servePlacers_follows ((s.hold h.port r none).setPlacement { s.placement with
    queue := s.placement.queue ++ [⟨h, c.die, c.wafer⟩] })).link h.port
  have before : (((s.hold h.port r none).setPlacement { s.placement with
      queue := s.placement.queue ++ [⟨h, c.die, c.wafer⟩] }).link h.port).held = some ⟨r, s.lineTime, none⟩ := by
    show ((s.hold h.port r none).link h.port).held = _
    rw [State.hold, setLink_link]
  rcases follows.held with same | answered
  · rw [before] at same
    rw [State.queuedPlacer, same] at held
    cases held
    exact place
  · rw [State.queuedPlacer, answered] at held
    cases held

/-- A placer is given the WET site chosen for it (R118). -/
theorem assign_eq {e : Placer} {c : Candidate} {col : Column} {st : Stamp} {x : Held}
    (column : s.columnAt c.position = some col) (site : s.siteAt c.position c.row = some (.wet st))
    (held : (s.link e.head.port).held = some x) :
    s.assign e c = ((s.setSite c.position c.row (.assigned st e.head s.lineTime false)).setPlacement
        { queue := s.placement.queue.filter fun y => y.head != e.head
          assigned := s.placement.assigned.set e.head
            (some ⟨col.strip, col.column, c.row, c.position, e.die, e.wafer, s.lineTime⟩)
          hold := s.placement.hold.set e.head
            (some (s.lineTime + BitVec.ofNat 32 s.settings.placeHold)) }).setLink e.head.port
      ((s.link e.head.port).answer x .site
        ([col.strip, word col.column, word c.row, word c.position] ++ words32 (st.deadline - s.lineTime))) := by
  have placement : (s.setSite c.position c.row (.assigned st e.head s.lineTime false)).placement = s.placement := by simp
  have links : (s.setSite c.position c.row (.assigned st e.head s.lineTime false)).links = s.links := by simp
  have link : (s.setSite c.position c.row (.assigned st e.head s.lineTime false)).link = s.link := by
    funext p
    rw [link_eq, link_eq, links]
  have heldThere (u : Placement) : (((s.setSite c.position c.row (.assigned st e.head s.lineTime false)).setPlacement
      u).link e.head.port).held = some x := by
    show ((s.setSite c.position c.row (.assigned st e.head s.lineTime false)).link e.head.port).held = some x
    rw [link]
    exact held
  have linkThere (u : Placement) : ((s.setSite c.position c.row (.assigned st e.head s.lineTime false)).setPlacement
      u).link e.head.port = s.link e.head.port := congrFun link _
  have whole : s.assign e c = ((s.setSite c.position c.row (.assigned st e.head s.lineTime false)).setPlacement
        { queue := s.placement.queue.filter fun y => y.head != e.head
          assigned := s.placement.assigned.set e.head
            (some ⟨col.strip, col.column, c.row, c.position, e.die, e.wafer, s.lineTime⟩)
          hold := s.placement.hold.set e.head
            (some (s.lineTime + BitVec.ofNat 32 s.settings.placeHold)) }).answerHeld e.head.port .site
      ([col.strip, word col.column, word c.row, word c.position] ++ words32 (st.deadline - s.lineTime)) := by
    simp only [State.assign, column, site, State.removePlacer, placement]
    rfl
  rw [whole, answerHeld_of_held (heldThere _), linkThere]

end

/-- Settles O35: PLACE by what its serving leaves held; the serving entry by entry. -/
theorem placeIsServedInTurnWhileTheTrackIsStill : Obligations.PlaceIsServedInTurnWhileTheTrackIsStill := by
  refine ⟨fun s h tag die a q c idle mode handed => ⟨fun refused => ?_, fun claim free queued => ?_⟩, fun s idle => ?_,
    fun s still => if_pos still, fun s => ⟨rfl, rfl⟩, fun s => rfl, fun s e rest => rfl,
    fun s e c col st x t column site held placed => ?_⟩
  · subst handed
    exact (exec_place idle (by simp)).trans (congrArg Host.Outcome.next (takePlace_of_refused rfl (working_of mode) refused))
  · subst handed
    have served : q = (s.handed h.port .place tag [die]).queuedPlacer h (Command.place.request tag [die]) c := queued
    have taken := (exec_place (tag := tag) idle (words := [die]) (by simp)).trans (congrArg Host.Outcome.next
      (takePlace_of_claim (s := s.handed h.port .place tag [die]) (r := Command.place.request tag [die]) rfl
        (working_of mode) claim free))
    obtain ⟨settings, lineTime⟩ := queuedPlacer_kept (s.handed h.port .place tag [die]) h (Command.place.request tag [die]) c
    rw [← served] at taken settings lineTime
    have wait : q.settings.placeWait = s.settings.placeWait := congrArg Settings.placeWait settings
    have now : q.lineTime = s.lineTime := lineTime
    refine ⟨fun answered => ?_, fun x held => ?_⟩
    · rw [taken, holds_of_none answered]
      rfl
    · have named := queuedPlacer_held (r := Command.place.request tag [die]) rfl (served ▸ held)
      rw [taken, holds_of_held held named, if_pos rfl, wait, now]
      split
      · rw [answerHeld_of_held (s := q.removePlacer h) held]
        rfl
      · simp only [State.startWait, held]
        rfl
  · rcases idle with moving | empty
    · exact if_neg moving
    · exact servePlacers_of_empty empty
  · rw [placed]
    exact assign_eq column site held

/-! ## The choice of a bond site (R113, R115) -/

theorem mem_windowDown {first last p : Nat} : p ∈ windowDown first last ↔ first ≤ p ∧ p ≤ last := by
  simp [windowDown, and_comm]

theorem keepsClear_iff (s : State) (h : Head) (p row : Nat) : s.keepsClear h p row = true
    ↔ ∀ o, s.assignedOf h.other = some o →
      ¬(o.position = p ∧ o.row = row) ∧ s.settings.keepOut ≤ (p - o.position) + (o.position - p) := by
  unfold State.keepsClear
  split
  · next none => simp [none]
  · next a assigned =>
    simp only [assigned, Option.some.injEq, forall_eq', Bool.and_eq_true, Bool.not_eq_true', Bool.and_eq_false_iff,
      beq_eq_false_iff_ne, ne_eq, decide_eq_true_eq, not_and_or]
    rfl

/-- A site is eligible when it is WET, in the bond window, PLACE-LEAD from its deadline and clear of the other head's. -/
theorem eligibleDeadline_iff (s : State) (h : Head) (p row : Nat) (t : Time) : s.eligibleDeadline h p row = some t
    ↔ ∃ st, s.siteAt p row = some (.wet st) ∧ t = st.deadline ∧ s.settings.bondStart ≤ p ∧ p ≤ s.settings.bondEnd
      ∧ (s.settings.placeLead : Int) ≤ (st.deadline - s.lineTime).toInt ∧ s.keepsClear h p row = true := by
  unfold State.eligibleDeadline
  split
  · next st site =>
    simp only [site, Option.some.injEq, Site.wet.injEq, exists_eq_left']
    split
    · next ok =>
      simp only [Bool.and_eq_true, decide_eq_true_eq] at ok
      obtain ⟨⟨⟨start, end_⟩, lead⟩, clear⟩ := ok
      exact ⟨fun same => ⟨(Option.some.inj same).symm, start, end_, lead, clear⟩, fun ⟨same, _⟩ => congrArg some same.symm⟩
    · next refused =>
      simp only [Bool.and_eq_true, decide_eq_true_eq, not_and] at refused
      constructor
      · nofun
      · rintro ⟨-, start, end_, lead, clear⟩
        exact absurd clear (refused ⟨⟨start, end_⟩, lead⟩)
  · next other =>
    constructor
    · nofun
    · rintro ⟨st, site, -⟩
      exact absurd site (other st)

/-- An eligible site's deadline is ahead of the line time, by less than half the clock's range. -/
theorem eligibleDeadline_ahead {s : State} {h : Head} {p row : Nat} {t : Time} (eligible : s.eligibleDeadline h p row = some t) :
    (t - s.lineTime).toNat < 2 ^ 31 := by
  obtain ⟨st, -, rfl, -, -, lead, -⟩ := (eligibleDeadline_iff ..).mp eligible
  have ahead : 0 ≤ (st.deadline - s.lineTime).toInt := Int.le_trans (Int.natCast_nonneg _) lead
  rw [BitVec.toInt_eq_toNat_cond] at ahead
  split at ahead <;> omega

theorem mem_candidates {s : State} {h : Head} {c : Candidate} : c ∈ s.candidates h
    ↔ c.row < s.settings.rows ∧ s.eligibleDeadline h c.position c.row = some c.deadline := by
  simp only [State.candidates, List.mem_filterMap, bondPlaces, List.mem_flatMap, List.mem_map, List.mem_range, mem_windowDown]
  constructor
  · rintro ⟨⟨p, row⟩, ⟨p', -, row', inside, same⟩, chosen⟩
    cases same
    cases eligible : s.eligibleDeadline h p row with
    | none => rw [eligible] at chosen; cases chosen
    | some d =>
      rw [eligible] at chosen
      cases chosen
      exact ⟨inside, eligible⟩
  · rintro ⟨inside, eligible⟩
    obtain ⟨st, -, -, start, end_, -⟩ := (eligibleDeadline_iff ..).mp eligible
    refine ⟨(c.position, c.row), ⟨c.position, ⟨start, end_⟩, c.row, inside, rfl⟩, ?_⟩
    simp only [eligible]

/-- The order in which ties are won: the higher position, then the lower row (R115). -/
def Candidate.winsTie (c d : Candidate) : Prop := d.position < c.position ∨ (d.position = c.position ∧ c.row < d.row)

theorem windowDown_pairwise (first last : Nat) : (windowDown first last).Pairwise (· > ·) := by
  rw [windowDown, List.pairwise_reverse]
  exact List.Pairwise.filter _ List.pairwise_lt_range

theorem candidates_pairwise (s : State) (h : Head) : (s.candidates h).Pairwise Candidate.winsTie := by
  have places : (bondPlaces s.settings).Pairwise fun x y => y.1 < x.1 ∨ (y.1 = x.1 ∧ x.2 < y.2) := by
    rw [bondPlaces, List.pairwise_flatMap]
    constructor
    · intro p _
      rw [List.pairwise_map]
      exact List.pairwise_lt_range.imp fun lt => .inr ⟨rfl, lt⟩
    · refine (windowDown_pairwise ..).imp fun gt x memX y memY => .inl ?_
      obtain ⟨r, -, rfl⟩ := List.mem_map.mp memX
      obtain ⟨q, -, rfl⟩ := List.mem_map.mp memY
      exact gt
  refine List.Pairwise.filterMap _ (fun x y order c chosenC d chosenD => ?_) places
  cases eligibleX : s.eligibleDeadline h x.1 x.2 with
  | none => rw [eligibleX] at chosenC; cases chosenC
  | some t =>
    cases eligibleY : s.eligibleDeadline h y.1 y.2 with
    | none => rw [eligibleY] at chosenD; cases chosenD
    | some u =>
      rw [eligibleX] at chosenC
      rw [eligibleY] at chosenD
      cases chosenC
      cases chosenD
      exact order

/-- Both within half the clock's range of now, the earlier of two times is the one nearer to now (R134). -/
theorem earlier_iff_of_ahead {now a b : Time} (ha : (a - now).toNat < 2 ^ 31) (hb : (b - now).toNat < 2 ^ 31) :
    earlier a b = true ↔ (a - now).toNat < (b - now).toNat := by
  rw [earlier, decide_eq_true_eq]
  bv_omega

/-- The candidate that `earliest` takes is nearest to now, and wins the ties (R115). -/
theorem earliest_spec {now : Time} (l : List Candidate) (ahead : ∀ d ∈ l, (d.deadline - now).toNat < 2 ^ 31)
    (order : l.Pairwise Candidate.winsTie) : (earliest l = none ↔ l = []) ∧ ∀ c, earliest l = some c →
      c ∈ l ∧ ∀ d ∈ l, (c.deadline - now).toNat < (d.deadline - now).toNat
        ∨ ((c.deadline - now).toNat = (d.deadline - now).toNat ∧ (d = c ∨ c.winsTie d)) := by
  induction l with
  | nil => exact ⟨by simp [earliest], nofun⟩
  | cons x rest ih =>
    obtain ⟨first, restOrder⟩ := List.pairwise_cons.mp order
    obtain ⟨none_iff, best⟩ := ih (fun d mem => ahead d (List.mem_cons_of_mem _ mem)) restOrder
    have aheadX := ahead x List.mem_cons_self
    rw [earliest]
    split
    · next none =>
      have empty := none_iff.mp none
      subst empty
      refine ⟨by simp, fun c chosen => ?_⟩
      cases chosen
      exact ⟨List.mem_cons_self, fun d mem => .inr (by simp_all)⟩
    · next y found =>
      obtain ⟨memY, bestY⟩ := best y found
      have aheadY := ahead y (List.mem_cons_of_mem _ memY)
      have before := earlier_iff_of_ahead aheadY aheadX
      split
      · next yFirst =>
        refine ⟨by simp, fun c chosen => ?_⟩
        cases chosen
        refine ⟨List.mem_cons_of_mem _ memY, fun d mem => ?_⟩
        rcases List.mem_cons.mp mem with rfl | mem
        · exact .inl (before.mp yFirst)
        · exact bestY d mem
      · next xFirst =>
        refine ⟨by simp, fun c chosen => ?_⟩
        cases chosen
        refine ⟨List.mem_cons_self, fun d mem => ?_⟩
        have notLater : (x.deadline - now).toNat ≤ (y.deadline - now).toNat := Nat.not_lt.mp fun lt => xFirst (before.mpr lt)
        rcases List.mem_cons.mp mem with rfl | mem
        · exact .inr ⟨rfl, .inl rfl⟩
        · have tie := first d mem
          rcases bestY d mem with lt | ⟨same, -⟩
          · exact .inl (Nat.lt_of_le_of_lt notLater lt)
          · rcases Nat.lt_or_eq_of_le (same ▸ notLater) with lt | eq
            · exact .inl lt
            · exact .inr ⟨eq, .inr tie⟩

/-- Settles O36: eligibility, and the first candidate of the earliest deadline in the order of ties. -/
theorem chosenBondSiteHasTheEarliestDeadline : Obligations.ChosenBondSiteHasTheEarliestDeadline := by
  intro s h
  have ahead : ∀ d ∈ s.candidates h, (d.deadline - s.lineTime).toNat < 2 ^ 31 := fun d mem =>
    eligibleDeadline_ahead (mem_candidates.mp mem).2
  obtain ⟨none_iff, best⟩ := earliest_spec (s.candidates h) ahead (candidates_pairwise s h)
  refine ⟨fun p r t => ?_, ?_, fun c chosen => ?_⟩
  · simp only [eligibleDeadline_iff, keepsClear_iff]
  · rw [State.chosenSite, none_iff, List.eq_nil_iff_forall_not_mem]
    constructor
    · intro none p r inside
      cases eligible : s.eligibleDeadline h p r with
      | none => rfl
      | some t => exact absurd (mem_candidates.mpr ⟨inside, eligible⟩) (none ⟨p, r, t⟩)
    · intro none c mem
      obtain ⟨inside, eligible⟩ := mem_candidates.mp mem
      rw [none _ _ inside] at eligible
      cases eligible
  · obtain ⟨mem, first⟩ := best c chosen
    obtain ⟨inside, eligible⟩ := mem_candidates.mp mem
    refine ⟨inside, eligible, fun p r t insideOther eligibleOther => ?_⟩
    rcases first ⟨p, r, t⟩ (mem_candidates.mpr ⟨insideOther, eligibleOther⟩) with lt | ⟨same, tie⟩
    · exact .inl lt
    · refine .inr ⟨?_, ?_⟩
      · have : c.deadline - s.lineTime = t - s.lineTime := BitVec.eq_of_toNat_eq same
        exact sub_left_inj.mp this
      · rcases tie with self | higher | ⟨same, lower⟩
        · cases self
          exact .inr ⟨rfl, Nat.le_refl _⟩
        · exact .inl higher
        · exact .inr ⟨same, Nat.le_of_lt lower⟩

end Sys2Proof.Machine
end

section
/-! THEOREMS. The spoil and the release of a site, BONDED and BOND-FAIL (O37 to O39). -/

namespace Sys2Proof.Machine

open Sys2Proof

/-! ## Sites (R92, R122) -/

section

variable {s : State} {h : Head} {a : Assigned} {st : Stamp} {g : Head} {since : Time} {late : Bool}

theorem setSite_of_column {p : Nat} {c : Column} (column : s.columnAt p = some c) (row : Nat) (x : Site) :
    s.setSite p row x = s.setColumn p (some { c with sites := c.sites.set row x }) := by
  rw [State.setSite, column]

theorem spoil_eq (s : State) (strip : Word) (column row p : Nat) (reason : SpoilReason) (st : Option Stamp) :
    s.spoil strip column row p reason st =
      let t := ({ s.setSite p row (.spoiled reason st) with
        dispenser := { s.dispenser with wet := s.dispenser.wet - 1 } }).notify .siteSpoiled
        [strip, word column, bytePair row p, word reason.code]
      if reason = .expired then { t with spoilLatch := true } else t := by
  have dispenser : (s.setSite p row (.spoiled reason st)).dispenser = s.dispenser := by simp
  rw [← dispenser]
  rfl

theorem releaseSite_of_none (none : s.assignedOf h = Option.none) : s.releaseSite h = s := by
  rw [State.releaseSite, none]

theorem releaseSite_of_assigned (assigned : s.assignedOf h = some a)
    (site : s.siteAt a.position a.row = some (.assigned st g since late)) :
    s.releaseSite h = if late then (s.endAssignment h).spoil a.strip a.column a.row a.position .expired (some st)
      else (s.endAssignment h).setSite a.position a.row (.wet st) := by
  simp only [State.releaseSite, assigned, site]

end

/-- Settles O37: each by its definition, the release by the assigned site's late flag. -/
theorem spoilAndReleaseChangeOneSite : Obligations.SpoilAndReleaseChangeOneSite := by
  refine fun s => ⟨fun p r x c column => setSite_of_column column r x,
    fun strip column row p reason st => spoil_eq s strip column row p reason st,
    fun h => ⟨releaseSite_of_none, fun a st g since late e assigned site ended => ?_⟩⟩
  rw [ended]
  exact releaseSite_of_assigned assigned site

/-! ## BONDED (R123 to R127) -/

theorem matchEdge_of_earlier {since now t : Time} (rest : List Time) (before : 2 ^ 31 ≤ (t - since).toNat) :
    matchEdge since now (t :: rest)
      = { matchEdge since now rest with strays := (matchEdge since now rest).strays + 1 } := by
  rw [matchEdge, if_pos (show earlier t since = true from decide_eq_true before)]

theorem matchEdge_of_not_earlier {since now t : Time} (rest : List Time) (from_ : (t - since).toNat < 2 ^ 31) :
    matchEdge since now (t :: rest) = ⟨t, .capture, rest, 0⟩ := by
  have notEarlier : ¬ earlier t since = true := fun before => Nat.not_le.mpr from_ (of_decide_eq_true before)
  rw [matchEdge, if_neg notEarlier]

theorem Assigned.isNamed_iff (a : Assigned) (strip column row : Word) (more : List Word) :
    a.isNamed (strip :: column :: row :: more) = true
      ↔ a.strip = strip ∧ a.column = column.toNat ∧ a.row = row.toNat := by
  simp [Assigned.isNamed, wordAt, natAt, and_assoc]

section

variable {s : State} {h : Head} {tag : Byte} {words : List Word}

theorem exec_bonded (idle : s.Idle h.port) (fits : words.length ≤ 24) : exec (.bonded h tag words) s
    = .next (takeBonded h (Command.bonded.request tag words) (s.handed h.port .bonded tag words)) := by
  cases h <;> exact exec_handed (p := Head.port _) (c := .bonded) rfl idle fits (by decide) (by decide)

theorem exec_bondFail (idle : s.Idle h.port) (fits : words.length ≤ 24) : exec (.bondFail h tag words) s
    = .next (takeBondFail h (Command.bondFail.request tag words) (s.handed h.port .bondFail tag words)) := by
  cases h <;> exact exec_handed (p := Head.port _) (c := .bondFail) rfl idle fits (by decide) (by decide)

end

/-- No site is assigned to the head, or its assigned site is not the one named (R123, R128). -/
def State.NamesNoAssigned (s : State) (h : Head) (strip column row : Word) : Prop :=
  s.assignedOf h = none ∨ ∃ r, s.assignedOf h = some r ∧ ¬(r.strip = strip ∧ r.column = column.toNat ∧ r.row = row.toNat)

section

variable {s : State} {h : Head} {r : Request} {strip column row : Word} {a : Assigned} {st : Stamp} {g : Head}
  {since : Time} {late : Bool}

theorem takeBonded_of_refused (words : r.words = [strip, column, row]) (working : s.working = true)
    (refused : s.NamesNoAssigned h strip column row) : takeBonded h r s = s.reply h.port r.tag .state [] := by
  rcases refused with none | ⟨a, assigned, other⟩
  · simp [takeBonded, words, working, none]
  · simp [takeBonded, words, working, assigned, mt (a.isNamed_iff strip column row []).mp other]

/-- The completion of a bond, with the state before and after its record (R124 to R127). -/
theorem completeBond_eq {c : Claim} {m : EdgeMatch} {u v : State}
    (bonded : u = ((((s.setSite a.position a.row (.bonded st late a.die a.wafer)).dropWet).moveDie a.wafer a.die .placed
      none none).removeClaim h c.die .carried))
    (logged : v = { u with
      placement := { u.placement with
        assigned := u.placement.assigned.set h none
        hold := u.placement.hold.set h none }
      report := { u.report with
        log := u.report.log ++ [{ bondRecord h a c st late m with seq := u.report.nextSeq }]
        nextSeq := u.report.nextSeq + 1 } }) :
    s.completeBond h a c st late m = if late then
      v.notify .lateBond [a.strip, word a.column, bytePair a.row a.position, word h.code] else v := by
  rw [logged, bonded]
  rfl

theorem takeBonded_of_named {c : Claim} (words : r.words = [strip, column, row]) (working : s.working = true)
    (assigned : s.assignedOf h = some a) (named : a.strip = strip ∧ a.column = column.toNat ∧ a.row = row.toNat)
    (site : s.siteAt a.position a.row = some (.assigned st g since late)) (claim : s.carriedClaim h = some c) :
    takeBonded h r s = ((((s.consume h.touchdown
        (matchEdge a.since s.lineTime (s.capture.get h.touchdown).queue)).completeBond h a c st late
        (matchEdge a.since s.lineTime (s.capture.get h.touchdown).queue)).reply h.port r.tag .done
        (words32 s.report.nextSeq))).siteWakes := by
  have isNamed := (a.isNamed_iff strip column row []).mpr named
  simp [takeBonded, words, working, assigned, isNamed, site, claim]

theorem takeBondFail_of_refused {reason : Word} (words : r.words = [strip, column, row, reason]) (known : reason.toNat ≤ 1)
    (working : s.working = true) (refused : s.NamesNoAssigned h strip column row) :
    takeBondFail h r s = s.reply h.port r.tag .state [] := by
  rcases refused with none | ⟨a, assigned, other⟩
  · simp [takeBondFail, words, working, none, natAt, wordAt, Nat.not_lt.mpr known]
  · simp [takeBondFail, words, working, assigned, mt (a.isNamed_iff strip column row [reason]).mp other, natAt, wordAt,
      Nat.not_lt.mpr known]

theorem takeBondFail_of_notReleased (words : r.words = [strip, column, row, 0]) (working : s.working = true)
    (assigned : s.assignedOf h = some a) (named : a.strip = strip ∧ a.column = column.toNat ∧ a.row = row.toNat)
    (site : s.siteAt a.position a.row = some (.assigned st g since late)) : takeBondFail h r s
      = ((s.releaseSite h).reply h.port r.tag .done [if late then 7 else 4, word DieState.carried.code]).siteWakes := by
  have isNamed := (a.isNamed_iff strip column row [0#16]).mpr named
  simp [takeBondFail, words, working, assigned, isNamed, site, natAt, wordAt]

theorem takeBondFail_of_misplaced (words : r.words = [strip, column, row, 1]) (working : s.working = true)
    (assigned : s.assignedOf h = some a) (named : a.strip = strip ∧ a.column = column.toNat ∧ a.row = row.toNat)
    (site : s.siteAt a.position a.row = some (.assigned st g since late)) : takeBondFail h r s
      = (((s.misplace h a st).reply h.port r.tag .done [7, word DieState.rejected.code]).siteWakes).wakeReserves := by
  have isNamed := (a.isNamed_iff strip column row [1#16]).mpr named
  simp [takeBondFail, words, working, assigned, isNamed, site, natAt, wordAt]

end

/-- Settles O38: the refusal, the completion of the assigned site's bond, and the matching of the touchdown queue. -/
theorem bondedCompletesTheBondWithItsRecord : Obligations.BondedCompletesTheBondWithItsRecord := by
  refine ⟨fun s h tag strip column row a idle mode handed => ⟨fun refused => ?_,
    fun r c st g since late m u v assigned strip_ column_ row_ site claim matched bonded logged => ?_⟩,
    fun since now => rfl, fun since now t rest => ⟨matchEdge_of_earlier rest, matchEdge_of_not_earlier rest⟩⟩
  · subst handed
    exact (exec_bonded idle (by simp)).trans
      (congrArg Host.Outcome.next (takeBonded_of_refused rfl (working_of mode) refused))
  · subst handed
    subst matched
    have completed := completeBond_eq (s := (s.handed h.port .bonded tag [strip, column, row]).consume h.touchdown
      (matchEdge r.since s.lineTime (s.capture.get h.touchdown).queue)) bonded logged
    have taken := (exec_bonded (tag := tag) (words := [strip, column, row]) idle (by simp)).trans
      (congrArg Host.Outcome.next (takeBonded_of_named (s := s.handed h.port .bonded tag [strip, column, row]) rfl
        (working_of mode) assigned ⟨strip_, column_, row_⟩ site claim))
    rw [← completed]
    exact taken

/-- Settles O39: by the reason, NOT-RELEASED through the release of the site, MISPLACED through its spoil. -/
theorem bondFailReleasesOrSpoilsTheSite : Obligations.BondFailReleasesOrSpoilsTheSite := by
  refine fun s h tag strip column row idle mode => ⟨fun reason known refused => ?_,
    fun r st g since late a assigned strip_ column_ row_ site => ⟨fun handed => ?_, fun handed => ?_⟩⟩
  · exact (exec_bondFail idle (by simp)).trans
      (congrArg Host.Outcome.next (takeBondFail_of_refused rfl known (working_of mode) refused))
  · subst handed
    exact (exec_bondFail idle (by simp)).trans (congrArg Host.Outcome.next
      (takeBondFail_of_notReleased rfl (working_of mode) assigned ⟨strip_, column_, row_⟩ site))
  · subst handed
    exact (exec_bondFail idle (by simp)).trans (congrArg Host.Outcome.next
      (takeBondFail_of_misplaced rfl (working_of mode) assigned ⟨strip_, column_, row_⟩ site))

end Sys2Proof.Machine
end

section
/-! THEOREMS. The presentation of a die, the hand-out of sites, and the dispense reports (O40 to O42). -/

namespace Sys2Proof.Machine

open Sys2Proof

/-! ## The presentation (R31, R54, R55) -/

section

variable {s : State} {tag : Byte} {words : List Word}

theorem exec_presented (idle : s.Idle .table) (fits : words.length ≤ 24) : exec (.presented tag words) s
    = .next (takePresented (Command.presented.request tag words) (s.handed .table .presented tag words)) :=
  exec_handed (c := .presented) rfl idle fits (by decide) (by decide)

theorem exec_presentFail (idle : s.Idle .table) (fits : words.length ≤ 24) : exec (.presentFail tag words) s
    = .next (takePresentFail (Command.presentFail.request tag words) (s.handed .table .presentFail tag words)) :=
  exec_handed (c := .presentFail) rfl idle fits (by decide) (by decide)

end

section

variable {s : State} {r : Request} {die : Word} {o : Order} {t : Time}

theorem deliveredFor_of_other {die : Nat} (other : ∀ o t, s.arbiter.station = .delivered o t → o.die ≠ die) :
    s.deliveredFor die = none := by
  unfold State.deliveredFor
  split
  · next o t delivered => exact if_neg (other o t delivered)
  all_goals rfl

theorem deliveredFor_of_delivered {die : Nat} (delivered : s.arbiter.station = .delivered o t) (named : o.die = die) :
    s.deliveredFor die = some (o, t) := by
  simp only [State.deliveredFor, delivered, if_pos named]

theorem residualAccepted_iff (limit : Nat) (ex ey : Int) :
    residualAccepted limit ex ey = true ↔ ex.natAbs ≤ limit ∧ ey.natAbs ≤ limit := by
  simp [residualAccepted]

theorem wordInt_toInt (w : Word) : wordInt w.toInt = w := BitVec.ofInt_toInt

theorem takePresented_of_stale {ex ey : Word} (words : r.words = [die, ex, ey]) (open_ : s.tableOpen = true)
    (stale : s.deliveredFor die.toNat = none) : takePresented r s = s.reply .table r.tag .stale [] := by
  simp [takePresented, words, open_, natAt, wordAt, stale]

theorem takePresented_of_accepted {ex ey : Word} (words : r.words = [die, ex, ey]) (open_ : s.tableOpen = true)
    (delivered : s.deliveredFor die.toNat = some (o, t)) (x : ex.toInt.natAbs ≤ s.settings.rejectLimit)
    (y : ey.toInt.natAbs ≤ s.settings.rejectLimit) :
    takePresented r s = (s.presentAccepted o t ex.toInt ey.toInt).reply .table r.tag .done [0] := by
  simp [takePresented, words, open_, natAt, wordAt, delivered, (residualAccepted_iff ..).mpr ⟨x, y⟩]

theorem takePresented_of_rejected {ex ey : Word} (words : r.words = [die, ex, ey]) (open_ : s.tableOpen = true)
    (delivered : s.deliveredFor die.toNat = some (o, t))
    (beyond : s.settings.rejectLimit < ex.toInt.natAbs ∨ s.settings.rejectLimit < ey.toInt.natAbs) :
    takePresented r s = ((s.presentOffset o).reply .table r.tag .done [1]).stationWakes := by
  have rejected : ¬ residualAccepted s.settings.rejectLimit ex.toInt ey.toInt = true := by
    rw [residualAccepted_iff]
    omega
  simp [takePresented, words, open_, natAt, wordAt, delivered, rejected]

theorem takePresentFail_of_stale {reason : Word} (words : r.words = [die, reason]) (known : reason.toNat ≤ 1)
    (open_ : s.tableOpen = true) (stale : s.deliveredFor die.toNat = none) :
    takePresentFail r s = s.reply .table r.tag .stale [] := by
  simp [takePresentFail, words, open_, natAt, wordAt, stale, Nat.not_lt.mpr known]

theorem takePresentFail_of_notFound (words : r.words = [die, 0]) (open_ : s.tableOpen = true)
    (delivered : s.deliveredFor die.toNat = some (o, t)) :
    takePresentFail r s = ((s.presentNotFound o).reply .table r.tag .done []).stationWakes := by
  simp [takePresentFail, words, open_, natAt, wordAt, delivered]

theorem takePresentFail_of_motion (words : r.words = [die, 1]) (open_ : s.tableOpen = true)
    (delivered : s.deliveredFor die.toNat = some (o, t)) :
    takePresentFail r s = ((s.presentMotion o).reply .table r.tag .done []).stationWakes := by
  simp [takePresentFail, words, open_, natAt, wordAt, delivered]

/-- A presentation accepted, from the state in which the die and its entry are PRESENTED (R54). -/
theorem presentAccepted_eq {ex ey : Word} {u : State}
    (moved : u = ((s.absorb ex.toInt ey.toInt).moveDie o.wafer o.die .presented none (some o.head)).moveClaim o.head o.die
      .staging .presented) :
    s.presentAccepted o t ex.toInt ey.toInt = (u.setArbiter { s.arbiter with
        station := .presented o t
        presentTimer := none
        grantTimer := s.arbiter.grantTimer.set o.head
          (some (s.lineTime + BitVec.ofNat 32 s.settings.grantHold)) }).answerHeld o.head.port .go [word o.die, ex, ey] := by
  have arbiter : u.arbiter = s.arbiter := by simp [moved]
  have lineTime : u.lineTime = s.lineTime := by simp [moved]
  have settings : u.settings = s.settings := by simp [moved]
  simp only [State.presentAccepted, ← moved, arbiter, lineTime, settings, wordInt_toInt]
  rfl

end

/-- Settles O40: STALE, and for the delivered die each outcome by the residuals or the reason. -/
theorem presentationIsAcceptedRejectedOrStale : Obligations.PresentationIsAcceptedRejectedOrStale := by
  intro s tag die idle mode
  have open_ : s.tableOpen = true := tableOpen_of mode
  refine ⟨fun stale => ⟨fun ex ey => ?_, fun reason known => ?_⟩,
    fun o t a delivered named => ⟨fun ex ey u handed => ⟨fun x y moved => ?_, fun beyond => ?_⟩, fun handed => ?_,
      fun handed => ?_⟩⟩
  · exact (exec_presented idle (by simp)).trans (congrArg Host.Outcome.next
      (takePresented_of_stale rfl open_ (deliveredFor_of_other (s := s) stale)))
  · exact (exec_presentFail idle (by simp)).trans (congrArg Host.Outcome.next
      (takePresentFail_of_stale rfl known open_ (deliveredFor_of_other (s := s) stale)))
  · subst handed
    have taken := (exec_presented (tag := tag) (words := [die, ex, ey]) idle (by simp)).trans (congrArg Host.Outcome.next
      (takePresented_of_accepted (s := s.handed .table .presented tag [die, ex, ey]) rfl open_
        (deliveredFor_of_delivered (s := s) delivered named) x y))
    rw [presentAccepted_eq moved] at taken
    exact taken
  · subst handed
    exact (exec_presented idle (by simp)).trans (congrArg Host.Outcome.next
      (takePresented_of_rejected rfl open_ (deliveredFor_of_delivered (s := s) delivered named) beyond))
  · subst handed
    exact (exec_presentFail idle (by simp)).trans (congrArg Host.Outcome.next
      (takePresentFail_of_notFound rfl open_ (deliveredFor_of_delivered (s := s) delivered named)))
  · subst handed
    exact (exec_presentFail idle (by simp)).trans (congrArg Host.Outcome.next
      (takePresentFail_of_motion rfl open_ (deliveredFor_of_delivered (s := s) delivered named)))

/-! ## The hand-out of a site (R93 to R96) -/

section

variable {s : State} {tag : Byte}

theorem exec_nextSite (idle : s.Idle .dispense) : exec (.nextSite tag []) s
    = .next (takeNextSite (Command.nextSite.request tag []) (s.handed .dispense .nextSite tag [])) :=
  exec_handed (c := .nextSite) rfl idle (by simp) (by decide) (by decide)

end

section

variable {s : State} {r : Request}

theorem nextPlace_of_clean {p row : Nat} (still : s.track.phase = .still) (below : s.dispenser.wet < s.settings.wetLimit)
    (first : (traversal s.settings).find? (fun x => s.siteAt x.1 x.2 == some .clean) = some (p, row)) :
    s.nextPlace = some (p, row) := by
  rw [State.nextPlace, if_pos still, if_neg (Nat.not_le.mpr below)]
  exact first

theorem nextPlace_of_blocked (blocked : s.track.phase ≠ .still ∨ s.settings.wetLimit ≤ s.dispenser.wet
    ∨ ∀ x ∈ traversal s.settings, s.siteAt x.1 x.2 ≠ some .clean) : s.nextPlace = none := by
  unfold State.nextPlace
  split
  · next still =>
    split
    · rfl
    · next below =>
      have noClean := (blocked.resolve_left (not_not_intro still)).resolve_left below
      rw [State.firstClean, List.find?_eq_none]
      exact fun x mem clean => noClean x mem (beq_iff_eq.mp clean)
  · rfl

theorem takeNextSite_of_dispensing (words : r.words = []) (run : s.mode = .run) (site : s.dispenser.site ≠ none) :
    takeNextSite r s = s.reply .dispense r.tag .state [] := by
  simp [takeNextSite, words, run, Option.isSome_iff_ne_none.mpr site]

theorem takeNextSite_of_place {p row : Nat} (words : r.words = []) (run : s.mode = .run) (free : s.dispenser.site = none)
    (place : s.nextPlace = some (p, row)) :
    takeNextSite r s = (s.handOut p row).2.reply .dispense r.tag .site (s.handOut p row).1 := by
  simp [takeNextSite, words, run, free, place]

theorem takeNextSite_of_none (words : r.words = []) (run : s.mode = .run) (free : s.dispenser.site = none)
    (none : s.nextPlace = Option.none) : takeNextSite r s
      = if s.settings.siteWait = 0 then s.reply .dispense r.tag .timeout []
        else s.hold .dispense r (some (after s.lineTime s.settings.siteWait)) := by
  simp [takeNextSite, words, run, free, none]

theorem serveNextSite_of_none (none : s.nextPlace = Option.none) : s.serveNextSite = s := by
  simp [State.serveNextSite, none]

theorem serveNextSite_of_place {p row : Nat} (held : s.holds .dispense Command.nextSite.code = true)
    (place : s.nextPlace = some (p, row)) :
    s.serveNextSite = (s.handOut p row).2.answerHeld .dispense .site (s.handOut p row).1 := by
  simp [State.serveNextSite, held, place]

theorem handOut_of_column {p : Nat} {c : Column} (column : s.columnAt p = some c) (row : Nat) :
    s.handOut p row = ([c.strip, word c.column, word row, word p],
      (s.setSite p row (.dispensing s.lineTime)).setDispenser
        { site := some ⟨c.strip, c.column, row, s.lineTime⟩
          hold := some (s.lineTime + BitVec.ofNat 32 s.settings.dispenseHold)
          wet := s.dispenser.wet + 1 }) := by
  rw [State.handOut, column]
  rfl

end

/-! ## The traversal (R93, R94) -/

/-- The turning of every second line moves no place off its line (R94). -/
theorem mem_layLines {α : Type} (serpentine : Bool) (lines : List (List α)) (odd : Bool) (x : α) :
    x ∈ layLines serpentine odd lines ↔ ∃ line ∈ lines, x ∈ line := by
  induction lines generalizing odd with
  | nil => simp [layLines]
  | cons line rest ih =>
    have turned : x ∈ (if (serpentine && odd) = true then line.reverse else line) ↔ x ∈ line := by
      split
      · exact List.mem_reverse
      · rfl
    rw [layLines, List.mem_append, turned, ih, List.exists_mem_cons_iff]

theorem layLines_straight {α : Type} (odd : Bool) (lines : List (List α)) : layLines false odd lines = lines.flatten := by
  induction lines generalizing odd with
  | nil => rfl
  | cons line rest ih => rw [layLines, ih, List.flatten_cons]; rfl

theorem mem_traversal {st : Settings} {p r : Nat} :
    (p, r) ∈ traversal st ↔ st.dispenseStart ≤ p ∧ p ≤ st.dispenseEnd ∧ r < st.rows := by
  unfold traversal
  dsimp only
  split <;> simp [mem_layLines, mem_windowDown] <;> tauto

theorem windowDown_eq_map (first last : Nat) :
    windowDown first last = (List.range (last + 1 - first)).map fun k => last - k := by
  have mapped : ((List.range (last + 1 - first)).map fun k => last - k).Pairwise (· > ·) := by
    rw [List.pairwise_map]
    refine List.pairwise_lt_range.imp_of_mem fun {a b} memA memB lt => ?_
    rw [List.mem_range] at memA memB
    omega
  refine List.Perm.eq_of_pairwise (le := (· > ·)) (fun a b _ _ ab ba => absurd ab (Nat.lt_asymm ba))
    (windowDown_pairwise ..) mapped ((List.perm_ext_iff_of_nodup ?_ ?_).mpr fun p => ?_)
  · exact (windowDown_pairwise ..).imp Nat.ne_of_gt
  · exact mapped.imp Nat.ne_of_gt
  · simp only [mem_windowDown, List.mem_map, List.mem_range]
    constructor
    · rintro ⟨start, end_⟩
      exact ⟨last - p, by omega, by omega⟩
    · rintro ⟨k, inside, rfl⟩
      omega

/-- Settles O41: the request, the re-evaluation of a held one, and the four orders of the traversal. -/
theorem nextSiteHandsOutTheFirstCleanSite : Obligations.NextSiteHandsOutTheFirstCleanSite := by
  refine ⟨fun s tag a idle mode handed => ⟨fun site => ?_, fun free => ⟨fun p r c still below first column => ?_,
    fun blocked => ?_⟩⟩, fun s idle => ?_, fun s p r held place => serveNextSite_of_place held place,
    fun st => ⟨fun p r => mem_traversal, fun order => ?_, fun order => ?_, fun order => ?_, fun order => ?_,
      windowDown_eq_map, fun odd => rfl, fun odd line rest => rfl⟩⟩
  · subst handed
    exact (exec_nextSite idle).trans (congrArg Host.Outcome.next (takeNextSite_of_dispensing rfl mode site))
  · subst handed
    have taken := (exec_nextSite (tag := tag) idle).trans (congrArg Host.Outcome.next
      (takeNextSite_of_place (s := s.handed .dispense .nextSite tag []) rfl mode free
        (nextPlace_of_clean (s := s) still below first)))
    rw [handOut_of_column (s := s.handed .dispense .nextSite tag []) column] at taken
    exact taken
  · subst handed
    exact (exec_nextSite idle).trans (congrArg Host.Outcome.next
      (takeNextSite_of_none rfl mode free (nextPlace_of_blocked (s := s) blocked)))
  · rcases idle with other | none
    · exact serveNextSite_of_not_held other
    · exact serveNextSite_of_none none
  · simp [traversal, order, layLines_straight, List.flatMap_def]
  · simp [traversal, order, (by decide : Nat.testBit 1 1 = false), layLines_straight, List.flatMap_def]
  · simp [traversal, order, (by decide : Nat.testBit 2 1 = true)]
  · simp [traversal, order, (by decide : Nat.testBit 3 1 = true)]

/-! ## DISPENSED and DISPENSE-FAIL (R98 to R101) -/

section

variable {s : State} {tag : Byte} {words : List Word}

theorem exec_dispensed (idle : s.Idle .dispense) (fits : words.length ≤ 24) : exec (.dispensed tag words) s
    = .next (takeDispensed (Command.dispensed.request tag words) (s.handed .dispense .dispensed tag words)) :=
  exec_handed (c := .dispensed) rfl idle fits (by decide) (by decide)

theorem exec_dispenseFail (idle : s.Idle .dispense) (fits : words.length ≤ 24) : exec (.dispenseFail tag words) s
    = .next (takeDispenseFail (Command.dispenseFail.request tag words) (s.handed .dispense .dispenseFail tag words)) :=
  exec_handed (c := .dispenseFail) rfl idle fits (by decide) (by decide)

end

theorem DispenseRef.isNamed_iff (d : DispenseRef) (strip column row : Word) (more : List Word) :
    d.isNamed (strip :: column :: row :: more) = true
      ↔ d.strip = strip ∧ d.column = column.toNat ∧ d.row = row.toNat := by
  simp [DispenseRef.isNamed, wordAt, natAt, and_assoc]

theorem later_iff (a b : Time) : later a b = true ↔ (a - b).toNat ∈ Set.Ico 1 (2 ^ 31) := by
  rw [later, Bool.and_eq_true, decide_eq_true_eq, decide_eq_true_eq]
  rfl

section

variable {s : State} {r : Request} {strip column row : Word} {d : DispenseRef} {p : Nat}

theorem takeDispensed_of_refused (words : r.words = [strip, column, row]) (working : s.working = true)
    (refused : ∀ d, s.dispenser.site = some d → ¬(d.strip = strip ∧ d.column = column.toNat ∧ d.row = row.toNat)) :
    takeDispensed r s = s.reply .dispense r.tag .state [] := by
  cases site : s.dispenser.site with
  | none => simp [takeDispensed, words, working, site]
  | some d => simp [takeDispensed, words, working, site, mt (d.isNamed_iff strip column row []).mp (refused d site)]

theorem takeDispenseFail_of_refused {reason : Word} (words : r.words = [strip, column, row, reason])
    (known : reason.toNat ≤ 1) (working : s.working = true)
    (refused : ∀ d, s.dispenser.site = some d → ¬(d.strip = strip ∧ d.column = column.toNat ∧ d.row = row.toNat)) :
    takeDispenseFail r s = s.reply .dispense r.tag .state [] := by
  have reasonOk : ¬ 1 < natAt [strip, column, row, reason] 3 := by simpa [natAt, wordAt] using known
  cases site : s.dispenser.site with
  | none => simp [takeDispenseFail, words, working, site, reasonOk]
  | some d =>
    simp [takeDispenseFail, words, working, site, reasonOk,
      mt (d.isNamed_iff strip column row [reason]).mp (refused d site)]

theorem takeDispensed_of_named {m : EdgeMatch} {deadline : Time} (words : r.words = [strip, column, row])
    (working : s.working = true) (site : s.dispenser.site = some d)
    (named : d.strip = strip ∧ d.column = column.toNat ∧ d.row = row.toNat)
    (place : s.findColumn d.strip d.column = some p)
    (matched : m = matchEdge d.handout s.lineTime s.capture.shot.queue) (due : deadline = deadlineOf s.settings m.time) :
    takeDispensed r s = ((((s.consume .shot m).completeDispense d p ⟨m.time, m.source, deadline⟩).reply .dispense r.tag
      .done ([if later deadline s.lineTime then 4 else 7, word m.source.code] ++ words32 deadline))).siteWakes := by
  subst matched due
  have isNamed := (d.isNamed_iff strip column row []).mpr named
  simp [takeDispensed, words, working, site, isNamed, place]

theorem takeDispenseFail_of_skip (words : r.words = [strip, column, row, 0]) (working : s.working = true)
    (site : s.dispenser.site = some d) (named : d.strip = strip ∧ d.column = column.toNat ∧ d.row = row.toNat)
    (place : s.findColumn d.strip d.column = some p) : takeDispenseFail r s
      = ((s.setSite p d.row .skipped).dropWet.endDispense.reply .dispense r.tag .done [8]).siteWakes := by
  have isNamed := (d.isNamed_iff strip column row [0#16]).mpr named
  simp [takeDispenseFail, words, working, site, isNamed, place, natAt, wordAt]

theorem takeDispenseFail_of_short (words : r.words = [strip, column, row, 1]) (working : s.working = true)
    (site : s.dispenser.site = some d) (named : d.strip = strip ∧ d.column = column.toNat ∧ d.row = row.toNat)
    (place : s.findColumn d.strip d.column = some p) : takeDispenseFail r s
      = (((s.spoil d.strip d.column d.row p .short none).endDispense).reply .dispense r.tag .done [7]).siteWakes := by
  have isNamed := (d.isNamed_iff strip column row [1#16]).mpr named
  simp [takeDispenseFail, words, working, site, isNamed, place, natAt, wordAt]

theorem completeDispense_of_later {st : Stamp} (later : later st.deadline s.lineTime = true) :
    s.completeDispense d p st = (s.setSite p d.row (.wet st)).endDispense := if_pos later

theorem completeDispense_of_expired {st : Stamp} (expired : ¬ later st.deadline s.lineTime = true) :
    s.completeDispense d p st = (s.spoil d.strip d.column d.row p .expired (some st)).endDispense := if_neg expired

end

/-- Settles O42: STATE, the stamp's outcome by its deadline, and each reason of DISPENSE-FAIL. -/
theorem dispenseReportsEndTheDispensing : Obligations.DispenseReportsEndTheDispensing := by
  intro s tag strip column row idle mode
  have working : s.working = true := working_of mode
  refine ⟨fun refused => ⟨?_, fun reason known => ?_⟩, fun d p a site strip_ column_ row_ place =>
    ⟨fun m deadline u handed matched due consumed => ?_, fun handed => ?_, fun handed => ?_⟩⟩
  · exact (exec_dispensed idle (by simp)).trans (congrArg Host.Outcome.next (takeDispensed_of_refused rfl working refused))
  · exact (exec_dispenseFail idle (by simp)).trans
      (congrArg Host.Outcome.next (takeDispenseFail_of_refused rfl known working refused))
  · subst handed
    have taken := (exec_dispensed (tag := tag) (words := [strip, column, row]) idle (by simp)).trans
      (congrArg Host.Outcome.next (takeDispensed_of_named (s := s.handed .dispense .dispensed tag [strip, column, row])
        rfl working site ⟨strip_, column_, row_⟩ place matched due))
    have consumed' : (s.handed .dispense .dispensed tag [strip, column, row]).consume .shot m = u := consumed.symm
    have now : u.lineTime = s.lineTime := by rw [consumed]; rfl
    rw [consumed'] at taken
    refine ⟨fun wet => ?_, fun spent => ?_⟩
    · have isLater := (later_iff ..).mpr wet
      rw [completeDispense_of_later (now ▸ isLater)] at taken
      refine taken.trans ?_
      rw [if_pos (show later deadline (s.handed .dispense .dispensed tag [strip, column, row]).lineTime = true from isLater)]
      rfl
    · have notLater := mt (later_iff ..).mp spent
      rw [completeDispense_of_expired (now ▸ notLater)] at taken
      refine taken.trans ?_
      rw [if_neg (show ¬ later deadline (s.handed .dispense .dispensed tag [strip, column, row]).lineTime = true
        from notLater)]
      rfl
  · subst handed
    exact (exec_dispenseFail idle (by simp)).trans
      (congrArg Host.Outcome.next (takeDispenseFail_of_skip rfl working site ⟨strip_, column_, row_⟩ place))
  · subst handed
    exact (exec_dispenseFail idle (by simp)).trans
      (congrArg Host.Outcome.next (takeDispenseFail_of_short rfl working site ⟨strip_, column_, row_⟩ place))

end Sys2Proof.Machine
end

section
/-! THEOREMS. The expiries of the hold, pot-life and wait timers (O43, O44). -/

namespace Sys2Proof.Machine

open Sys2Proof

/-! ## Taking an expiry (R142, R143) -/

section

variable {s : State} {t : Timer}

/-- A timer whose expiry is still ahead does not expire. -/
theorem not_expired_of_ahead {now t : Time} (ahead : 2 ^ 31 ≤ (now - t).toNat) : expired now (some t) = false :=
  Bool.eq_false_iff.mpr fun due => by
    obtain ⟨u, same, past⟩ := (expired_iff ..).mp due
    cases same
    omega

theorem expired_of_past {now t : Time} (past : (now - t).toNat < 2 ^ 31) : expired now (some t) = true :=
  (expired_iff ..).mpr ⟨t, rfl, past⟩

theorem takeExpiry_of_not_due (due : s.isDue t = false) : s.takeExpiry t = s := by
  simp [State.takeExpiry, due]

theorem takeExpiry_of_isDue (due : s.isDue t = true) : s.takeExpiry t = (s.expire t).settle := by
  simp [State.takeExpiry, due]

/-- What follows a state in which no request waits has none waiting either. -/
theorem State.Follows.requests_empty {s t : State} (follows : s.Follows t) (empty : ∀ q, (s.link q).requests = [])
    (q : Port) : (t.link q).requests = [] := by
  rcases (follows.link q).requests with same | none
  · exact same.trans (empty q)
  · exact none

theorem takeExpiry_of_follows (empty : ∀ q, (s.link q).requests = []) (due : s.isDue t = true)
    (follows : s.Follows (s.expire t)) : s.takeExpiry t = s.expire t := by
  rw [takeExpiry_of_isDue due, settle_of_empty (follows.requests_empty empty)]

/-- An expiry that is a cause for a port not yet aborted brings its entry, and nothing more is taken (R192). -/
theorem takeExpiry_of_cause {u : State} {p : Port} {c : AbortCause} (empty : ∀ q, (s.link q).requests = [])
    (due : s.isDue t = true) (serving : (s.link p).causes = []) (links : u.links = s.links)
    (expires : s.expire t = u.causeReaches p c false) : s.takeExpiry t = u.enterAbort p c false := by
  have link (q : Port) : u.link q = s.link q := by rw [link_eq, link_eq, links]
  rw [takeExpiry_of_isDue due, expires, causeReaches_enters (by rw [link]; exact serving), settle_of_empty]
  exact enterAbort_requests (fun q _ => by rw [link]; exact empty q) _ _

end

/-! ## The hold timers (R59, R61, R102, R129) -/

theorem expirePlaceHold_of_assigned {s : State} {h g : Head} {a : Assigned} {st : Stamp} {since : Time} {late : Bool}
    (assigned : s.assignedOf h = some a) (site : s.siteAt a.position a.row = some (.assigned st g since late)) :
    s.expirePlaceHold h = ((s.losePlaced h a st).endAssignment h).causeReaches h.port .placeExpired false := by
  simp only [State.expirePlaceHold, assigned, site]

/-- Settles O43: each hold timer, ahead or run out; the abort entry leaves no request waiting. -/
theorem holdExpiriesAbortThePort : Obligations.HoldExpiriesAbortThePort := by
  refine fun s empty => ⟨fun t running => ⟨fun ahead => ?_, fun past serving => ?_⟩,
    fun h t running => ⟨fun ahead => ?_, fun past serving => ?_⟩, fun t running => ⟨fun ahead => ?_, fun past serving => ?_⟩,
    fun h t running => ⟨fun ahead => ?_, fun a st g since late past serving assigned site => ?_⟩⟩ <;>
    refine congrArg Host.Outcome.next ?_
  · have due : s.isDue .presentation = false := by rw [State.isDue, running, not_expired_of_ahead ahead]
    exact takeExpiry_of_not_due due
  · have due : s.isDue .presentation = true := by rw [State.isDue, running, expired_of_past past]
    exact takeExpiry_of_cause empty due serving (setArbiter_links ..) rfl
  · have due : s.isDue (.grant h) = false := by simp only [State.isDue, running, not_expired_of_ahead ahead]
    exact takeExpiry_of_not_due due
  · have due : s.isDue (.grant h) = true := by simp only [State.isDue, running, expired_of_past past]
    exact takeExpiry_of_cause empty due serving (setArbiter_links ..) rfl
  · have due : s.isDue .dispenseHold = false := by rw [State.isDue, running, not_expired_of_ahead ahead]
    exact takeExpiry_of_not_due due
  · have due : s.isDue .dispenseHold = true := by rw [State.isDue, running, expired_of_past past]
    exact takeExpiry_of_cause empty due serving (setDispenser_links ..) rfl
  · have due : s.isDue (.placeHold h) = false := by simp only [State.isDue, running, not_expired_of_ahead ahead]
    exact takeExpiry_of_not_due due
  · have due : s.isDue (.placeHold h) = true := by simp only [State.isDue, running, expired_of_past past]
    exact takeExpiry_of_cause empty due serving (by simp) (expirePlaceHold_of_assigned assigned site)

/-! ## The pot-life timer (R106, R107) -/

section

variable {s : State} {strip : Word} {column row p : Nat}

theorem potLife_isDue {x : Site} (found : s.findSite strip column row = some (p, x)) :
    s.isDue (.potLife strip column row) = expired s.lineTime x.potExpiry := by
  simp [State.isDue, State.potExpiry, found]

theorem expirePotLife_of_wet {st : Stamp} (found : s.findSite strip column row = some (p, .wet st)) :
    s.expirePotLife strip column row = (s.spoil strip column row p .expired (some st)).serveNextSite := by
  simp only [State.expirePotLife, found]

theorem expirePotLife_of_assigned {st : Stamp} {h : Head} {since : Time} {late : Bool}
    (found : s.findSite strip column row = some (p, .assigned st h since late)) :
    s.expirePotLife strip column row = s.setSite p row (.assigned st h since true) := by
  simp only [State.expirePotLife, found]

/-- A site without a running pot-life timer has none that is due (R105). -/
theorem potLife_not_due (stopped : ∀ p x, s.findSite strip column row = some (p, x) → x.potExpiry = none) :
    s.isDue (.potLife strip column row) = false := by
  cases found : s.findSite strip column row with
  | none => simp [State.isDue, State.potExpiry, found, expired]
  | some px => rw [potLife_isDue (p := px.1) (x := px.2) found, stopped _ _ found]; rfl

end

/-! ## The wait timer (R45, R97, R121) -/

section

variable {s : State} {p : Port} {x : Held}

theorem wait_isDue (held : (s.link p).held = some x) : s.isDue (.wait p) = expired s.lineTime x.expiry := by
  simp [State.isDue, State.waitExpiry, held]

theorem expireWait_of_other (held : (s.link p).held = some x) (other : x.request.code ≠ Command.place.code) :
    s.expireWait p = s.setLink p ((s.link p).answer x .timeout []) := by
  have notPlace : s.holds p Command.place.code = false := by simp [State.holds, held, other]
  unfold State.expireWait
  split
  · exact answerHeld_of_held held ..
  · rw [notPlace, if_neg Bool.false_ne_true]
    exact answerHeld_of_held held ..

theorem expireWait_of_place {h : Head} (held : (s.link h.port).held = some x)
    (place : x.request.code = Command.place.code) :
    s.expireWait h.port = (s.removePlacer h).setLink h.port ((s.link h.port).answer x .timeout []) := by
  simp only [State.expireWait, head?_port, holds_of_held held place, if_true,
    answerHeld_of_held (s := s.removePlacer h) held]
  rfl

theorem expireWait_follows (s : State) (p : Port) : s.Follows (s.expireWait p) := by
  unfold State.expireWait
  split
  · exact answerHeld_follows ..
  · split
    · exact .trans (.of_links (by simp)) (answerHeld_follows ..)
    · exact answerHeld_follows ..

end

/-- Settles O44: the pot life by the site's record, the wait by the request held. -/
theorem potLifeAndWaitExpiriesEndAtTheirTime : Obligations.PotLifeAndWaitExpiriesEndAtTheirTime := by
  refine ⟨fun s empty => ⟨fun strip column row p st found => ⟨fun past => ?_, fun ahead => ?_⟩,
    fun strip column row p st h since found past => ?_, fun strip column row stopped => ?_,
    fun p x t held expiry => ⟨fun ahead => ?_, fun past => ⟨fun other => ?_, fun h port place => ?_⟩⟩⟩,
    fun s p x t held expiry past other => ?_⟩ <;> refine congrArg Host.Outcome.next ?_
  · have due : s.isDue (.potLife strip column row) = true := (potLife_isDue found).trans (expired_of_past past)
    have expires : s.expire (.potLife strip column row) = _ := expirePotLife_of_wet found
    rw [takeExpiry_of_follows empty due, expires]
    rw [expires]
    exact .trans (.of_links (by simp)) (serveNextSite_follows _)
  · exact takeExpiry_of_not_due ((potLife_isDue found).trans (not_expired_of_ahead ahead))
  · have due : s.isDue (.potLife strip column row) = true := (potLife_isDue found).trans (expired_of_past past)
    have expires : s.expire (.potLife strip column row) = _ := expirePotLife_of_assigned found
    rw [takeExpiry_of_follows empty due, expires]
    rw [expires]
    exact .of_links (by simp)
  · exact takeExpiry_of_not_due (potLife_not_due stopped)
  · exact takeExpiry_of_not_due ((wait_isDue held).trans (expiry ▸ not_expired_of_ahead ahead))
  · have due : s.isDue (.wait p) = true := (wait_isDue held).trans (expiry ▸ expired_of_past past)
    exact (takeExpiry_of_follows empty due (expireWait_follows s p)).trans (expireWait_of_other held other)
  · subst port
    have due : s.isDue (.wait h.port) = true := (wait_isDue held).trans (expiry ▸ expired_of_past past)
    exact (takeExpiry_of_follows empty due (expireWait_follows s h.port)).trans (expireWait_of_place held place)
  · have due : s.isDue (.wait p) = true := (wait_isDue held).trans (expiry ▸ expired_of_past past)
    exact (takeExpiry_of_isDue due).trans (congrArg State.settle (expireWait_of_other held other))

end Sys2Proof.Machine
end

section
/-! THEOREMS. SET and the rows that are SETs of one setting (O45). -/

namespace Sys2Proof.Machine

open Sys2Proof

/-! ## The settings table (09) -/

/-- The settings whose write condition requires SETUP. -/
def setupIds : List Nat := [1, 2, 3, 4, 7, 9, 10, 11, 15, 16, 17, 19, 20, 21, 22, 23, 24, 25, 26, 27]

/-- The geometry settings (R88). -/
def geometryIds : List Nat := [17, 19, 21, 22, 23, 24, 25, 26, 27]

theorem needsSetup_iff : ∀ n < 39, 1 ≤ n → (needsSetup n = true ↔ n ∈ setupIds) := by decide

theorem isGeometry_iff : ∀ n < 39, isGeometry n = true ↔ n ∈ geometryIds := by decide

theorem setupIds_known : ∀ n ∈ setupIds, 1 ≤ n ∧ n ≤ 38 := by decide

theorem geometryIds_known : ∀ n ∈ geometryIds, 1 ≤ n ∧ n ≤ 38 := by decide

theorem configMask_eq {n : Nat} (config : 30 ≤ n) : (configMask n : Int) = if n ≤ 34 then 32 else 128 := by
  simp only [configMask, isAttn, Bool.and_eq_true, decide_eq_true_eq, config, true_and]
  split <;> rfl

theorem columns_eq_nil_iff (s : State) : s.columns = [] ↔ ∀ p, s.columnAt p = none := by
  rw [State.columns, List.filterMap_eq_nil_iff]
  constructor
  · intro empty p
    by_cases inside : p < s.settings.trackLength
    · exact empty p (List.mem_range.mpr inside)
    · exact if_neg inside
  · exact fun empty p _ => empty p

theorem trackClear_iff (s : State) :
    s.trackClear = true ↔ (∀ p, s.columnAt p = none) ∧ s.track.strips = [] := by
  rw [State.trackClear, Bool.and_eq_true, List.isEmpty_iff, List.isEmpty_iff, columns_eq_nil_iff]

/-! ## The refusals, in their order (R169) -/

section

variable {s : State} {n : Nat} {z : Int}

theorem setRefusal_mode (needs : n ∈ setupIds) (other : s.mode ≠ .setup) : s.setRefusal n z = some .mode := by
  obtain ⟨first, last⟩ := setupIds_known n needs
  simp [State.setRefusal, (needsSetup_iff n (by omega) first).mpr needs, other]

theorem setRefusal_state (geometry : n ∈ geometryIds) (setup : s.mode = .setup)
    (occupied : (∃ p c, s.columnAt p = some c) ∨ s.track.strips ≠ []) : s.setRefusal n z = some .state := by
  obtain ⟨first, last⟩ := geometryIds_known n geometry
  have notClear : ¬ s.trackClear = true := by
    rw [trackClear_iff]
    rintro ⟨empty, none⟩
    rcases occupied with ⟨p, c, column⟩ | strips
    · rw [empty p] at column
      cases column
    · exact strips none
  simp [State.setRefusal, setup, (isGeometry_iff n (by omega)).mpr geometry, notClear]

theorem setRefusal_config (config : 30 ≤ n) (last : n ≤ 38)
    (bad : z < 0 ∨ (if n ≤ 34 then 32 else 128) ≤ z) : s.setRefusal n z = some .badparam := by
  have noSetup : needsSetup n = false :=
    Bool.eq_false_iff.mpr fun needs => absurd ((needsSetup_iff n (by omega) (by omega)).mp needs) (by simp [setupIds]; omega)
  have noGeometry : isGeometry n = false :=
    Bool.eq_false_iff.mpr fun needs => absurd ((isGeometry_iff n (by omega)).mp needs) (by simp [geometryIds]; omega)
  have refused : configOk n z = false :=
    Bool.eq_false_iff.mpr fun ok => by
      obtain ⟨nonneg, below⟩ := (configOk_iff n z).mp ok
      rw [configMask_eq config] at below
      omega
  simp [State.setRefusal, noSetup, noGeometry, isConfig, config, refused]

theorem setRefusal_none (first : 1 ≤ n) (last : n ≤ 38) (setup : n ∈ setupIds → s.mode = .setup)
    (clear : n ∈ geometryIds → (∀ p, s.columnAt p = none) ∧ s.track.strips = [])
    (ok : 30 ≤ n → 0 ≤ z ∧ z < if n ≤ 34 then 32 else 128) : s.setRefusal n z = none := by
  have setupOk : ¬ (needsSetup n && s.mode != .setup) = true := by
    rw [Bool.and_eq_true, needsSetup_iff n (by omega) first, bne_iff_ne]
    exact fun ⟨needs, other⟩ => other (setup needs)
  have clearOk : ¬ (isGeometry n && !s.trackClear) = true := by
    rw [Bool.and_eq_true, isGeometry_iff n (by omega), Bool.not_eq_true', ← Bool.not_eq_true]
    exact fun ⟨geometry, occupied⟩ => occupied ((trackClear_iff s).mpr (clear geometry))
  have valueOk : ¬ (isConfig n && !configOk n z) = true := by
    rw [Bool.and_eq_true, isConfig, decide_eq_true_eq, Bool.not_eq_true', ← Bool.not_eq_true, configOk_iff]
    rintro ⟨config, bad⟩
    rw [configMask_eq config] at bad
    exact bad (ok config)
  rw [State.setRefusal, if_neg setupOk, if_neg clearOk, if_neg valueOk]

end

/-! ## The value stored (R169) -/

theorem storedValue_of_number {n : Nat} (last : n ≤ 29) (z : Int) :
    storedValue n z = max (settingRange n).1 (min (settingRange n).2 z) := by
  have numeric : ¬ isConfig n = true := by simp [isConfig]; omega
  have ordered := settingRange_ordered n (by omega)
  rw [storedValue, if_neg numeric]
  unfold clampTo
  split
  · omega
  · split <;> omega

theorem storedValue_of_attn {n : Nat} (first : 30 ≤ n) (last : n ≤ 34) {z : Int} (nonneg : 0 ≤ z) :
    storedValue n z = z / 16 * 16 + max 1 (min 8 (z % 16)) := by
  lift z to Nat using nonneg
  simp [storedValue, isConfig, clampConfig, isAttn, first, last]

theorem storedValue_of_lamp {n : Nat} (first : 35 ≤ n) {z : Int} (nonneg : 0 ≤ z) :
    storedValue n z = z / 64 * 64 + min 2 (z / 16 % 4) * 16 + z % 16 := by
  lift z to Nat using nonneg
  have config : 30 ≤ n := by omega
  have notAttn : ¬ n ≤ 34 := by omega
  simp [storedValue, isConfig, clampConfig, isAttn, config, notAttn]

/-! ## The effects of a write (R14, R20, R35, R119) -/

theorem evalWaferLow_of_not_ready {s : State} (none : s.readyWafer = Option.none) : s.evalWaferLow = s := by
  unfold State.readyWafer at none
  unfold State.evalWaferLow
  split at none
  · rfl
  · rfl
  · cases none

theorem binSetWritten_eq (s : State) : s.binSetWritten = ({ s with map := { s.map with
      rescan := true
      waferEmpty := false
      eligible := if s.readyWafer.isSome then s.countEligible else s.map.eligible } }).evalWaferLow := by
  cases phase : s.map.phase with
  | none =>
    have unready : s.readyWafer = Option.none := by simp [State.readyWafer, phase]
    simp only [unready, Option.isSome_none, Bool.false_eq_true, if_false]
    rw [evalWaferLow_of_not_ready (by exact unready)]
    simp only [State.binSetWritten, State.setMap, phase]
  | loading w =>
    have unready : s.readyWafer = Option.none := by simp [State.readyWafer, phase]
    simp only [unready, Option.isSome_none, Bool.false_eq_true, if_false]
    rw [evalWaferLow_of_not_ready (by exact unready)]
    simp only [State.binSetWritten, State.setMap, phase]
  | ready w =>
    have ready : s.readyWafer = some w := by simp [State.readyWafer, phase]
    simp only [ready, Option.isSome_some, if_true]
    simp only [State.binSetWritten, State.setMap, phase]
    rfl

/-- DRIFT-MAX as stored bounds both accumulators (R35). -/
theorem driftMax_written (t : Settings) (z : Int) :
    (((t.put 7 (storedValue 7 z)).driftMax : Nat) : Int) = storedValue 7 z := by
  have nonneg : 0 ≤ storedValue 7 z := by
    rw [storedValue_of_number (by omega)]
    exact Int.le_max_left 0 _
  exact Int.toNat_of_nonneg nonneg

/-- The effects of a write of setting `n`, on the state `u` that holds the stored value. -/
theorem settingWritten_eq {u : State} {n : Nat} {stored : Int}
    (bound : n = 7 → (u.settings.driftMax : Int) = stored) : u.settingWritten n
      = if n = 28 then ({ u with map := { u.map with
          rescan := true
          waferEmpty := false
          eligible := if u.readyWafer.isSome then u.countEligible else u.map.eligible } }).evalWaferLow
        else if n = 7 then { u with drift :=
          ⟨max (-stored) (min stored u.drift.dx), max (-stored) (min stored u.drift.dy)⟩ }
        else if n = 29 then u.evalWaferLow
        else if n = 18 then u.servePlacers
        else u := by
  unfold State.settingWritten
  split
  · exact binSetWritten_eq u
  · split
    · next driftMax => simp only [State.clampDrifts, clampDrift_eq, bound driftMax]
    · rfl

/-! ## SET (R169) -/

theorem words32_append (v : BitVec 32) : (v.extractLsb' 16 16 ++ v.extractLsb' 0 16 : BitVec 32) = v := by
  rw [BitVec.extractLsb'_append_extractLsb'_eq_extractLsb' (by omega)]
  simp

section

variable {s : State} {r : Request} {id : Word} {v : BitVec 32}

theorem intAt_value (id : Word) (v : BitVec 32) : intAt [id, v.extractLsb' 16 16, v.extractLsb' 0 16] 1 = v.toInt :=
  congrArg BitVec.toInt (words32_append v)

theorem takeSet_of_unknown (words : r.words = [id, v.extractLsb' 16 16, v.extractLsb' 0 16])
    (unknown : id.toNat = 0 ∨ 38 < id.toNat) : takeSet r s = s.reply .cell r.tag .badparam [] := by
  have named : natAt r.words 0 = id.toNat := by simp [words, natAt, wordAt]
  have refused : settingKnown id.toNat = false := Bool.eq_false_iff.mpr fun known => by
    obtain ⟨first, last⟩ := (settingKnown_iff _).mp known
    omega
  simp [takeSet, named, refused]

theorem takeSet_of_refusal {code : ReplyCode} (words : r.words = [id, v.extractLsb' 16 16, v.extractLsb' 0 16])
    (first : 1 ≤ id.toNat) (last : id.toNat ≤ 38) (refusal : s.setRefusal id.toNat v.toInt = some code) :
    takeSet r s = s.reply .cell r.tag code [] := by
  have named : natAt r.words 0 = id.toNat := by simp [words, natAt, wordAt]
  have value : intAt r.words 1 = v.toInt := by rw [words, intAt_value]
  have length : r.words.length = 3 := by rw [words]; rfl
  simp [takeSet, named, value, length, (settingKnown_iff _).mpr ⟨first, last⟩, refusal]

theorem takeSet_of_accepted (words : r.words = [id, v.extractLsb' 16 16, v.extractLsb' 0 16])
    (first : 1 ≤ id.toNat) (last : id.toNat ≤ 38) (accepted : s.setRefusal id.toNat v.toInt = none) :
    takeSet r s = (s.writeSetting id.toNat v.toInt).reply .cell r.tag
      (if storedValue id.toNat v.toInt = v.toInt then .done else .clamped) (wordsInt (storedValue id.toNat v.toInt)) := by
  have named : natAt r.words 0 = id.toNat := by simp [words, natAt, wordAt]
  have value : intAt r.words 1 = v.toInt := by rw [words, intAt_value]
  have length : r.words.length = 3 := by rw [words]; rfl
  simp [takeSet, named, value, length, (settingKnown_iff _).mpr ⟨first, last⟩, accepted]

/-- SET, and the rows that name their setting, hand over the same request. -/
theorem exec_set {i : Instr} {tag : Byte} {n : Nat} (idle : s.Idle .cell) (id_ : n = id.toNat)
    (instr : i = .set tag [id, v.extractLsb' 16 16, v.extractLsb' 0 16] ∨ (n = 28 ∧ i = .writeBinSet tag v)
      ∨ (n = 7 ∧ i = .writeDriftMax tag v) ∨ (n = 29 ∧ i = .writeWaferLow tag v)
      ∨ (n = 18 ∧ i = .writePlaceLead tag v)) :
    exec i s = .next (takeSet (Command.set.request tag [id, v.extractLsb' 16 16, v.extractLsb' 0 16])
      (s.handed .cell .set tag [id, v.extractLsb' 16 16, v.extractLsb' 0 16])) := by
  have named {k : Word} (is : n = k.toNat) : k = id := BitVec.eq_of_toNat_eq (is.symm.trans id_)
  have row : i.requestOf = some (.cell, Command.set.request tag [id, v.extractLsb' 16 16, v.extractLsb' 0 16]) := by
    rcases instr with rfl | ⟨is, rfl⟩ | ⟨is, rfl⟩ | ⟨is, rfl⟩ | ⟨is, rfl⟩
    · rfl
    · rw [← named (k := 28) is]; rfl
    · rw [← named (k := 7) is]; rfl
    · rw [← named (k := 29) is]; rfl
    · rw [← named (k := 18) is]; rfl
  exact exec_handed (c := .set) row idle (by simp) (by decide) (by decide)

end

/-- Settles O45: the refusals in their order, the stored value, and the effects by setting. -/
theorem setStoresAValueInRangeAndTakesEffect : Obligations.SetStoresAValueInRangeAndTakesEffect := by
  refine ⟨fun s i tag id v n a u stored idle id_ handed instr stores written => ?_, fun n z =>
    ⟨fun _ last => storedValue_of_number last z, fun first last nonneg _ => storedValue_of_attn first last nonneg,
      fun first _ nonneg _ => storedValue_of_lamp first nonneg⟩, fun t m n z other => get_put_ne t z other, by decide⟩
  have taken := exec_set idle id_ instr
  subst id_ handed
  refine ⟨fun unknown => ?_, fun needs other => ?_, fun geometry setup occupied => ?_, fun config last bad => ?_,
    fun first last setup clear ok => ?_⟩
  · exact taken.trans (congrArg Host.Outcome.next (takeSet_of_unknown rfl unknown))
  · obtain ⟨first, last⟩ := setupIds_known _ needs
    exact taken.trans (congrArg Host.Outcome.next
      (takeSet_of_refusal rfl first last (setRefusal_mode (s := s) needs other)))
  · obtain ⟨first, last⟩ := geometryIds_known _ geometry
    exact taken.trans (congrArg Host.Outcome.next
      (takeSet_of_refusal rfl first last (setRefusal_state (s := s) geometry setup occupied)))
  · exact taken.trans (congrArg Host.Outcome.next
      (takeSet_of_refusal rfl (by omega) last (setRefusal_config (s := s) config last bad)))
  · have accepted := taken.trans (congrArg Host.Outcome.next (takeSet_of_accepted rfl first last
      (setRefusal_none (s := s) first last setup clear ok)))
    have bound : id.toNat = 7 → (u.settings.driftMax : Int) = stored := by
      intro driftMax
      rw [written, stores, driftMax]
      exact driftMax_written s.settings v.toInt
    have effects := settingWritten_eq (u := u) bound
    have write : (s.handed .cell .set tag [id, v.extractLsb' 16 16, v.extractLsb' 0 16]).writeSetting id.toNat v.toInt
        = u.settingWritten id.toNat := by
      rw [written, stores]
      rfl
    have map : u.map = s.map := by rw [written]; rfl
    have drift : u.drift = s.drift := by rw [written]; rfl
    have ready : u.readyWafer = s.readyWafer := readyWafer_congr (congrArg DieMap.phase map)
    rw [write, effects, ← stores] at accepted
    rw [← map, ← drift, ← ready]
    exact accepted

end Sys2Proof.Machine
end

section
/-! THEOREMS. The changes of line mode, HALT and the leaving-RUN reports (O47, O48). -/

namespace Sys2Proof.Machine

open Sys2Proof

/-! ## The first check that fails -/

theorem firstBad_of_first {checks : List (Nat × Bool)} {k id : Nat} (fails : checks[k]? = some (id, false))
    (before : ∀ (j : Nat) (x : Nat × Bool), j < k → checks[j]? = some x → x.2 = true) : firstBad checks = some id := by
  induction checks generalizing k with
  | nil => simp at fails
  | cons x rest ih =>
    cases k with
    | zero =>
      obtain rfl : x = (id, false) := by simpa using fails
      rfl
    | succ k =>
      have ok : x.2 = true := before 0 x k.succ_pos rfl
      rw [firstBad, if_pos ok]
      exact ih (by simpa using fails) fun j y lt there => before (j + 1) y (Nat.succ_lt_succ lt) (by simpa using there)

theorem firstBad_of_all {checks : List (Nat × Bool)} (all : ∀ x ∈ checks, x.2 = true) : firstBad checks = none := by
  induction checks with
  | nil => rfl
  | cons x rest ih =>
    rw [firstBad, if_pos (all x List.mem_cons_self)]
    exact ih fun y mem => all y (List.mem_cons_of_mem _ mem)

/-! ## The sites on the track -/

theorem mem_columns {s : State} {c : Column} : c ∈ s.columns ↔ ∃ p, s.columnAt p = some c := by
  rw [State.columns, List.mem_filterMap]
  constructor
  · rintro ⟨p, -, column⟩
    exact ⟨p, column⟩
  · rintro ⟨p, column⟩
    refine ⟨p, List.mem_range.mpr (Nat.not_le.mp fun beyond => ?_), column⟩
    rw [State.columnAt, if_neg (Nat.not_lt.mpr beyond)] at column
    cases column

theorem siteAt_eq_some_iff {s : State} {p row : Nat} {x : Site} :
    s.siteAt p row = some x ↔ ∃ c, s.columnAt p = some c ∧ c.sites[row]? = some x := by
  rw [State.siteAt]
  cases s.columnAt p <;> simp

theorem countSites_eq_sum (s : State) (f : Site → Bool) :
    s.countSites f = (s.columns.map fun c => c.sites.countP f).sum := by
  rw [State.countSites, List.sum_eq_foldl, List.foldl_map]

theorem countSites_pos_iff (s : State) (f : Site → Bool) :
    0 < s.countSites f ↔ ∃ p row x, s.siteAt p row = some x ∧ f x = true := by
  rw [countSites_eq_sum, Nat.pos_iff_ne_zero, ne_eq, List.sum_eq_zero_iff, List.forall_mem_map]
  simp only [List.countP_eq_zero, siteAt_eq_some_iff]
  constructor
  · intro some_
    push Not at some_
    obtain ⟨c, mem, x, site, test⟩ := some_
    obtain ⟨p, column⟩ := mem_columns.mp mem
    obtain ⟨row, there⟩ := List.mem_iff_getElem?.mp site
    exact ⟨p, row, x, ⟨c, column, there⟩, test⟩
  · rintro ⟨p, row, x, ⟨c, column, there⟩, test⟩ none
    exact none c (mem_columns.mpr ⟨p, column⟩) x (List.mem_of_getElem? there) test

theorem Site.isDispensing_iff (x : Site) : x.isDispensing = true ↔ ∃ t, x = .dispensing t := by
  cases x <;> simp [Site.isDispensing]

theorem Site.isAssigned_iff (x : Site) : x.isAssigned = true ↔ ∃ st h t l, x = .assigned st h t l := by
  cases x <;> simp [Site.isAssigned]

theorem Site.inFlight_eq (x : Site) : x.inFlight = (x.isDispensing || x.isAssigned) := by cases x <;> rfl

/-! ## What keeps the line from stopping (R167) -/

/-- The six bits of a sum of weighted flags. -/
theorem testBit_flags : ∀ a b c d e f : Bool,
    let n := bit a + bit b * 2 + bit c * 4 + bit d * 8 + bit e * 16 + bit f * 32
    n.testBit 0 = a ∧ n.testBit 1 = b ∧ n.testBit 2 = c ∧ n.testBit 3 = d ∧ n.testBit 4 = e ∧ n.testBit 5 = f
      ∧ n < 64 := by decide

/-- The bits of BUSY name what keeps the line from stopping (R167). -/
theorem stopBusy_spec (s : State) :
    (s.stopBusy.testBit 0 = true ↔ s.claimsOf .A ≠ []) ∧ (s.stopBusy.testBit 1 = true ↔ s.claimsOf .B ≠ [])
      ∧ (s.stopBusy.testBit 2 = true ↔ s.arbiter.station ≠ .free)
      ∧ (s.stopBusy.testBit 3 = true ↔ ∃ p r t, s.siteAt p r = some (.dispensing t))
      ∧ (s.stopBusy.testBit 4 = true ↔ ∃ p r st h t l, s.siteAt p r = some (.assigned st h t l))
      ∧ (s.stopBusy.testBit 5 = true ↔ s.track.phase ≠ .still) ∧ s.stopBusy < 64 := by
  obtain ⟨bit0, bit1, bit2, bit3, bit4, bit5, fits⟩ := testBit_flags (!s.claims.a.isEmpty) (!s.claims.b.isEmpty)
    (s.arbiter.station != .free) (decide (0 < s.countSites Site.isDispensing))
    (decide (0 < s.countSites Site.isAssigned)) (s.track.phase != .still)
  refine ⟨?_, ?_, ?_, ?_, ?_, ?_, fits⟩
  · rw [State.stopBusy, bit0]; simp [State.claimsOf, PerHead.get]
  · rw [State.stopBusy, bit1]; simp [State.claimsOf, PerHead.get]
  · rw [State.stopBusy, bit2, bne_iff_ne]
  · rw [State.stopBusy, bit3, decide_eq_true_eq, countSites_pos_iff]
    simp only [Site.isDispensing_iff]
    exact ⟨fun ⟨p, r, x, site, t, is⟩ => ⟨p, r, t, is ▸ site⟩, fun ⟨p, r, t, site⟩ => ⟨p, r, _, site, t, rfl⟩⟩
  · rw [State.stopBusy, bit4, decide_eq_true_eq, countSites_pos_iff]
    simp only [Site.isAssigned_iff]
    exact ⟨fun ⟨p, r, x, site, st, h, t, l, is⟩ => ⟨p, r, st, h, t, l, is ▸ site⟩,
      fun ⟨p, r, st, h, t, l, site⟩ => ⟨p, r, _, site, st, h, t, l, rfl⟩⟩
  · rw [State.stopBusy, bit5, bne_iff_ne]

theorem stopBusy_eq_zero {s : State} (a : s.claimsOf .A = []) (b : s.claimsOf .B = []) (free : s.arbiter.station = .free)
    (quiet : ∀ p r x, s.siteAt p r = some x → x.inFlight = false) (still : s.track.phase = .still) : s.stopBusy = 0 := by
  have noneOf {f : Site → Bool} (le : ∀ x, f x = true → x.inFlight = true) : ¬ 0 < s.countSites f := by
    rw [countSites_pos_iff]
    rintro ⟨p, r, x, site, test⟩
    exact absurd (le x test) (Bool.eq_false_iff.mp (quiet p r x site))
  have dispensing : ¬ 0 < s.countSites Site.isDispensing := noneOf fun x is => by rw [Site.inFlight_eq, is, Bool.true_or]
  have assigned : ¬ 0 < s.countSites Site.isAssigned := noneOf fun x is => by rw [Site.inFlight_eq, is, Bool.or_true]
  have claimsA : s.claims.a = [] := a
  have claimsB : s.claims.b = [] := b
  simp [State.stopBusy, claimsA, claimsB, free, still, decide_eq_false dispensing, decide_eq_false assigned, bit]

/-! ## The changes of mode (R162 to R166) -/

section

variable {s : State} {tag : Byte}

theorem exec_start (idle : s.Idle .cell) : exec (.start tag []) s
    = .next (takeStart (Command.start.request tag []) (s.handed .cell .start tag [])) :=
  exec_handed (c := .start) rfl idle (Nat.zero_le _) (by decide) (by decide)

theorem exec_drain (idle : s.Idle .cell) : exec (.drain tag []) s
    = .next (takeDrain (Command.drain.request tag []) (s.handed .cell .drain tag [])) :=
  exec_handed (c := .drain) rfl idle (Nat.zero_le _) (by decide) (by decide)

theorem exec_resume (idle : s.Idle .cell) : exec (.resume tag []) s
    = .next (takeResume (Command.resume.request tag []) (s.handed .cell .resume tag [])) :=
  exec_handed (c := .resume) rfl idle (Nat.zero_le _) (by decide) (by decide)

theorem exec_halt (idle : s.Idle .cell) : exec (.halt tag []) s
    = .next (takeHalt (Command.halt.request tag []) (s.handed .cell .halt tag [])) :=
  exec_handed (c := .halt) rfl idle (Nat.zero_le _) (by decide) (by decide)

theorem exec_stop (idle : s.Idle .cell) : exec (.stop tag []) s
    = .next (takeStop (Command.stop.request tag []) (s.handed .cell .stop tag [])) :=
  exec_handed (c := .stop) rfl idle (Nat.zero_le _) (by decide) (by decide)

end

/-- LINE-HALT not sticky on ports 1 to 4 (R166). -/
def quietLinks (ls : PerPort Link) : PerPort Link :=
  { ls with
    headA := ls.headA.unstick .lineHalt
    headB := ls.headB.unstick .lineHalt
    table := ls.table.unstick .lineHalt
    dispense := ls.dispense.unstick .lineHalt }

theorem unstick_eq (c : AbortCause) (l : Link) : l.unstick c
    = { l with causes := l.causes.map fun m => if m.cause = c then { m with sticky := false } else m } := by
  simp [Link.unstick]

section

variable {s : State} {m : LineMode}

theorem changeMode_of_run (run : s.mode = .run) : s.changeMode m
    = { s with mode := m, reports := ⟨s.reports.claimUnit + 1, s.reports.dispenseSequencer + 1⟩ } := by
  simp only [State.changeMode, run, State.leaveRun]

theorem changeMode_of_halt (halt : s.mode = .halt) : s.changeMode m
    = { s with mode := m, links := quietLinks s.links } := by
  simp only [State.changeMode, halt]
  rfl

theorem changeMode_of_other {old : LineMode} (mode : s.mode = old) (run : old ≠ .run) (halt : old ≠ .halt) :
    s.changeMode m = { s with mode := m } := by
  unfold State.changeMode
  split
  · next is => exact absurd (mode.symm.trans is) run
  · next is => exact absurd (mode.symm.trans is) halt
  all_goals rfl

/-- A change of mode, with what leaving RUN and leaving HALT bring (R164, R166). -/
theorem changeMode_eq (s : State) (m : LineMode) : s.changeMode m = { s with
    mode := m
    reports := if s.mode = LineMode.run then ⟨s.reports.claimUnit + 1, s.reports.dispenseSequencer + 1⟩ else s.reports
    links := if s.mode = LineMode.halt then quietLinks s.links else s.links } := by
  by_cases run : s.mode = .run
  · simp [changeMode_of_run run, run]
  · by_cases halt : s.mode = .halt
    · simp [changeMode_of_halt halt, halt]
    · simp [changeMode_of_other rfl run halt, run, halt]

end

section

variable {s : State} {r : Request}

theorem takeStart_of_bad {id : Nat} (none : r.words = []) (setup : s.mode = .setup)
    (bad : firstBad (windowChecks s.settings) = some id) : takeStart r s = s.reply .cell r.tag .badparam [word id] := by
  simp [takeStart, none, setup, bad]

theorem takeStart_of_ok (none : r.words = []) (setup : s.mode = .setup)
    (ok : firstBad (windowChecks s.settings) = Option.none) : takeStart r s = s.enterMode r .run := by
  simp [takeStart, none, setup, ok]

theorem takeDrain_of (none : r.words = []) (mode : s.mode = .run ∨ s.mode = .halt) : takeDrain r s = s.enterMode r .drain := by
  simp [takeDrain, none, mode]

theorem takeResume_of (none : r.words = []) (mode : s.mode = .drain ∨ s.mode = .halt) :
    takeResume r s = s.enterMode r .run := by
  simp [takeResume, none, mode]

theorem takeStop_of_quiet (none : r.words = []) (mode : s.mode = .run ∨ s.mode = .drain ∨ s.mode = .halt)
    (quiet : s.stopBusy = 0) : takeStop r s = s.enterMode r .setup := by
  simp [takeStop, none, mode, quiet]

theorem takeStop_of_busy (none : r.words = []) (mode : s.mode = .run ∨ s.mode = .drain ∨ s.mode = .halt)
    (busy : s.stopBusy ≠ 0) : takeStop r s = s.reply .cell r.tag .busy [word s.stopBusy] := by
  simp [takeStop, none, mode, busy]

theorem windowChecks_eq (st : Settings) : windowChecks st =
    [(23, decide (st.dispenseStart ≤ st.dispenseEnd ∧ st.dispenseStart < st.trackLength)),
      (24, decide (st.dispenseEnd < st.trackLength)),
      (25, decide (st.bondStart ≤ st.bondEnd ∧ st.bondStart < st.trackLength)),
      (26, decide (st.bondEnd < st.trackLength))] := by
  simp only [windowChecks, Bool.decide_and]

end

/-- Settles O47: the checks of START, the modes entered from RUN, DRAIN and HALT, and the bits of BUSY. -/
theorem modeChangesEnterTheModeTheyAskFor : Obligations.ModeChangesEnterTheModeTheyAskFor := by
  intro s tag loose quiet idle loosens quiets
  have loose_eq : loose = Link.unstick .lineHalt := funext fun l => (loosens l).trans (unstick_eq .lineHalt l).symm
  have quiet_eq : quiet = quietLinks := funext fun ls => by rw [quiets, loose_eq]; rfl
  subst quiet_eq
  refine ⟨fun a checks handed setup listed => ⟨fun k id fails before => ?_, fun all => ?_⟩,
    fun a handed => ⟨fun run => ?_, fun halt => ?_⟩, fun a handed => ⟨fun drain => ?_, fun halt => ?_⟩,
    fun a handed mode => ⟨fun claimsA claimsB free still_ still => ?_, fun busy => ?_, stopBusy_spec s⟩⟩ <;> subst handed
  · rw [← windowChecks_eq] at listed
    subst listed
    exact (exec_start idle).trans (congrArg Host.Outcome.next
      (takeStart_of_bad (s := s.handed .cell .start tag []) rfl setup (firstBad_of_first fails before)))
  · rw [← windowChecks_eq] at listed
    subst listed
    have taken := (exec_start (tag := tag) idle).trans (congrArg Host.Outcome.next
      (takeStart_of_ok (s := s.handed .cell .start tag []) rfl setup (firstBad_of_all all)))
    rw [State.enterMode, changeMode_of_other (s := s.handed .cell .start tag []) setup nofun nofun] at taken
    exact taken
  · have taken := (exec_drain (tag := tag) idle).trans (congrArg Host.Outcome.next
      (takeDrain_of (s := s.handed .cell .drain tag []) rfl (.inl run)))
    rw [State.enterMode, changeMode_of_run (s := s.handed .cell .drain tag []) run] at taken
    exact taken
  · have taken := (exec_drain (tag := tag) idle).trans (congrArg Host.Outcome.next
      (takeDrain_of (s := s.handed .cell .drain tag []) rfl (.inr halt)))
    rw [State.enterMode, changeMode_of_halt (s := s.handed .cell .drain tag []) halt] at taken
    exact taken
  · have taken := (exec_resume (tag := tag) idle).trans (congrArg Host.Outcome.next
      (takeResume_of (s := s.handed .cell .resume tag []) rfl (.inl drain)))
    rw [State.enterMode, changeMode_of_other (s := s.handed .cell .resume tag []) drain nofun nofun] at taken
    exact taken
  · have taken := (exec_resume (tag := tag) idle).trans (congrArg Host.Outcome.next
      (takeResume_of (s := s.handed .cell .resume tag []) rfl (.inr halt)))
    rw [State.enterMode, changeMode_of_halt (s := s.handed .cell .resume tag []) halt] at taken
    exact taken
  · have taken := (exec_stop (tag := tag) idle).trans (congrArg Host.Outcome.next
      (takeStop_of_quiet (s := s.handed .cell .stop tag []) rfl mode (stopBusy_eq_zero (s := s) claimsA claimsB free still_ still)))
    rw [State.enterMode, changeMode_eq (s.handed .cell .stop tag [])] at taken
    exact taken
  · exact (exec_stop idle).trans
      (congrArg Host.Outcome.next (takeStop_of_busy (s := s.handed .cell .stop tag []) rfl mode busy))

/-! ## HALT (R165, R166) -/

/-- HALT asks a port to enter abort: an abort under way gains the cause, any other port's entry is counted. -/
def Link.askedToHalt (l : Link) : Link :=
  if l.causes = [] then { l with haltEntries := l.haltEntries + 1 }
  else { l with causes := addCause l.causes .lineHalt true }

theorem requestHalt_eq (s : State) (p : Port) : s.requestHalt p = s.setLink p (s.link p).askedToHalt := by
  by_cases serving : (s.link p).causes = []
  · simp [State.requestHalt, Link.askedToHalt, State.isAborted, serving]
  · simp [State.requestHalt, State.causeReaches, Link.askedToHalt, State.isAborted, serving]

theorem requestHalts_eq (s : State) : s.requestHalts = { s with links := { s.links with
    headA := (s.link .headA).askedToHalt
    headB := (s.link .headB).askedToHalt
    table := (s.link .table).askedToHalt
    dispense := (s.link .dispense).askedToHalt } } := by
  simp only [State.requestHalts, haltPorts, List.foldl_cons, List.foldl_nil, requestHalt_eq]
  rfl

theorem takeHalt_of {s : State} {r : Request} (none : r.words = []) (mode : s.mode = .run ∨ s.mode = .drain) :
    takeHalt r s = ((s.changeMode .halt).requestHalts).reply .cell r.tag .done [word LineMode.halt.code] := by
  simp [takeHalt, none, mode]

theorem addCause_of_new {cs : List CauseMark} {c : AbortCause} (new : ∀ m ∈ cs, m.cause ≠ c) (sticky : Bool) :
    addCause cs c sticky = cs ++ [⟨c, sticky⟩] :=
  if_neg (by simpa using new)

theorem addCause_of_present {cs : List CauseMark} {c : AbortCause} (present : ∃ m ∈ cs, m.cause = c) (sticky : Bool) :
    addCause cs c sticky = cs.map fun m => if m.cause = c then { m with sticky := m.sticky || sticky } else m := by
  rw [addCause, if_pos (by simpa using present)]
  simp only [beq_iff_eq]

/-! ## The leaving-RUN reports (R164) -/

section

variable {s : State} {ends : Byte → Link → Link}

/-- A report ends the request named, and leaves any other held request as it is. -/
theorem answerMode_eq (named : ∀ code l x, l.held = some x → ends code l = if x.request.code = code then l.answer x .mode [] else l)
    (unheld : ∀ code l, l.held = none → ends code l = l) (s : State) (p : Port) (c : Command) :
    s.answerMode p c = s.setLink p (ends c.code (s.link p)) := by
  unfold State.answerMode
  cases held : (s.link p).held with
  | none =>
    rw [holds_of_none held, unheld _ _ held, setLink_self]
    rfl
  | some x =>
    rw [named _ _ _ held]
    by_cases code : x.request.code = c.code
    · rw [if_pos (holds_of_held held code), if_pos code, answerHeld_of_held held]
    · have other : ¬ s.holds p c.code = true := by simp [State.holds, held, code]
      rw [if_neg other, if_neg code, setLink_self]

theorem reportClaimUnit_of_none (none : s.reports.claimUnit = 0) : s.reportClaimUnit = s := by
  simp only [State.reportClaimUnit, none]

theorem reportDispenser_of_none (none : s.reports.dispenseSequencer = 0) : s.reportDispenser = s := by
  simp only [State.reportDispenser, none]

theorem reportClaimUnit_of_requested {k : Nat} (empty : ∀ q, (s.link q).requests = []) (requested : s.reports.claimUnit = k + 1) :
    s.reportClaimUnit = (({ s with reports := { s.reports with claimUnit := k } }).answerMode .headA .reserve).answerMode
      .headB .reserve := by
  simp only [State.reportClaimUnit, requested]
  have follows := (answerMode_follows { s with reports := { s.reports with claimUnit := k } } .headA .reserve).trans
    (answerMode_follows _ .headB .reserve)
  exact settle_of_empty (follows.requests_empty (by exact empty))

theorem reportDispenser_of_requested {k : Nat} (empty : ∀ q, (s.link q).requests = [])
    (requested : s.reports.dispenseSequencer = k + 1) : s.reportDispenser
      = ({ s with reports := { s.reports with dispenseSequencer := k } }).answerMode .dispense .nextSite := by
  simp only [State.reportDispenser, requested]
  exact settle_of_empty ((answerMode_follows _ .dispense .nextSite).requests_empty (by exact empty))

end

/-- Settles O48: HALT as a change of mode and four requests; the causes; each report. -/
theorem haltAsksFourPortsAndReportsEndHeldRequests : Obligations.HaltAsksFourPortsAndReportsEndHeldRequests := by
  refine ⟨fun s tag a ask idle mode handed asks => ?_, fun cs c sticky =>
    ⟨fun new => addCause_of_new new sticky, fun present => addCause_of_present present sticky⟩,
    fun s ends empty named unheld => ⟨fun none => congrArg Host.Outcome.next (reportClaimUnit_of_none none),
      fun none => congrArg Host.Outcome.next (reportDispenser_of_none none),
      fun k requested => congrArg Host.Outcome.next ?_, fun k requested => congrArg Host.Outcome.next ?_⟩⟩
  · have ask_eq : ask = Link.askedToHalt := funext asks
    subst handed ask_eq
    have taken := (exec_halt (tag := tag) idle).trans (congrArg Host.Outcome.next
      (takeHalt_of (s := s.handed .cell .halt tag []) rfl mode))
    have notHalt : (s.handed .cell .halt tag []).mode ≠ .halt := by
      intro halt
      rcases mode with run | drain
      · exact absurd (run.symm.trans halt) nofun
      · exact absurd (drain.symm.trans halt) nofun
    rw [changeMode_eq (s.handed .cell .halt tag []), if_neg notHalt, requestHalts_eq] at taken
    exact taken
  · refine (reportClaimUnit_of_requested empty requested).trans ?_
    rw [answerMode_eq named unheld, answerMode_eq named unheld]
    rfl
  · refine (reportDispenser_of_requested empty requested).trans ?_
    rw [answerMode_eq named unheld]
    rfl

end Sys2Proof.Machine
end

section
/-! THEOREMS. MAP-OPEN, MAP-ALIGN, MAP-CLOSE, WAFER-CLOSE and RESOLVE on the cell port (O49, O51, O53). -/

namespace Sys2Proof.Machine

open Sys2Proof

section

variable {s : State} {tag : Byte} {words : List Word}

theorem exec_mapOpen (idle : s.Idle .cell) (fits : words.length ≤ 24) : exec (.mapOpen tag words) s
    = .next (takeMapOpen (Command.mapOpen.request tag words) (s.handed .cell .mapOpen tag words)) :=
  exec_handed (c := .mapOpen) rfl idle fits (by decide) (by decide)

theorem exec_mapAlign (idle : s.Idle .cell) (fits : words.length ≤ 24) : exec (.mapAlign tag words) s
    = .next (takeMapAlign (Command.mapAlign.request tag words) (s.handed .cell .mapAlign tag words)) :=
  exec_handed (c := .mapAlign) rfl idle fits (by decide) (by decide)

theorem exec_mapClose (idle : s.Idle .cell) : exec (.mapClose tag []) s
    = .next (takeMapClose (Command.mapClose.request tag []) (s.handed .cell .mapClose tag [])) :=
  exec_handed (c := .mapClose) rfl idle (Nat.zero_le _) (by decide) (by decide)

theorem exec_waferClose (idle : s.Idle .cell) : exec (.waferClose tag []) s
    = .next (takeWaferClose (Command.waferClose.request tag []) (s.handed .cell .waferClose tag [])) :=
  exec_handed (c := .waferClose) rfl idle (Nat.zero_le _) (by decide) (by decide)

theorem exec_resolve (idle : s.Idle .cell) (fits : words.length ≤ 24) : exec (.resolve tag words) s
    = .next (takeResolve (Command.resolve.request tag words) (s.handed .cell .resolve tag words)) :=
  exec_handed (c := .resolve) rfl idle fits (by decide) (by decide)

end

/-! ## The fields of a wafer and their checks (R4, R10) -/

/-- The fourteen words of a transform, as MAP-ALIGN carries them. -/
def transformWords (c0 r0 : Word) (x0 y0 dxc dyc dxr dyr : BitVec 32) : List Word :=
  [c0, r0] ++ words32 x0 ++ words32 y0 ++ words32 dxc ++ words32 dyc ++ words32 dxr ++ words32 dyr

/-- The transform that these words spell. -/
def transformOf (c0 r0 : Word) (x0 y0 dxc dyc dxr dyr : BitVec 32) : Transform :=
  ⟨c0.toNat, r0.toNat, x0.toInt, y0.toInt, dxc.toInt, dyc.toInt, dxr.toInt, dyr.toInt⟩

section

variable (c0 r0 : Word) (x0 y0 dxc dyc dxr dyr : BitVec 32)

theorem transformAt_words :
    transformAt (transformWords c0 r0 x0 y0 dxc dyc dxr dyr) 0 = transformOf c0 r0 x0 y0 dxc dyc dxr dyr := by
  rw [transformAt, transformOf, Transform.mk.injEq]
  exact ⟨rfl, rfl, congrArg BitVec.toInt (words32_append x0), congrArg BitVec.toInt (words32_append y0),
    congrArg BitVec.toInt (words32_append dxc), congrArg BitVec.toInt (words32_append dyc),
    congrArg BitVec.toInt (words32_append dxr), congrArg BitVec.toInt (words32_append dyr)⟩

theorem waferOf_words (wafer n columns rows : Word) :
    waferOf ([wafer, n, columns, rows] ++ transformWords c0 r0 x0 y0 dxc dyc dxr dyr)
      = ⟨wafer, n.toNat, columns.toNat, rows.toNat, transformOf c0 r0 x0 y0 dxc dyc dxr dyr⟩ := by
  rw [← transformAt_words]
  rfl

end

theorem within_origin (z : Int) : within originMax z = decide (-8388607 ≤ z ∧ z ≤ 8388607) := by
  refine decide_eq_decide.mpr ?_
  unfold originMax
  omega

theorem within_step (z : Int) : within stepMax z = decide (-134217727 ≤ z ∧ z ≤ 134217727) := by
  refine decide_eq_decide.mpr ?_
  unfold stepMax
  omega

/-- The checks of the transform fields from word `i` on, each as its range (R4). -/
theorem transformChecks_eq (t : Transform) (columns rows i : Nat) : transformChecks t columns rows i =
    [(i, decide (t.c0 < columns)), (i + 1, decide (t.r0 < rows)),
      (i + 2, decide (-8388607 ≤ t.x0 ∧ t.x0 ≤ 8388607)), (i + 4, decide (-8388607 ≤ t.y0 ∧ t.y0 ≤ 8388607)),
      (i + 6, decide (-134217727 ≤ t.dxc ∧ t.dxc ≤ 134217727)),
      (i + 8, decide (-134217727 ≤ t.dyc ∧ t.dyc ≤ 134217727)),
      (i + 10, decide (-134217727 ≤ t.dxr ∧ t.dxr ≤ 134217727)),
      (i + 12, decide (-134217727 ≤ t.dyr ∧ t.dyr ≤ 134217727))] := by
  simp only [transformChecks, within_origin, within_step]

theorem waferChecks_eq (w : WaferInfo) : waferChecks w =
    [(1, decide (1 ≤ w.dieCount ∧ w.dieCount ≤ 32768)), (2, decide (1 ≤ w.columns ∧ w.columns ≤ 512)),
      (3, decide (1 ≤ w.rows ∧ w.rows ≤ 512))] ++ transformChecks w.transform w.columns w.rows 4
    ++ [(1, decide (w.dieCount ≤ w.columns * w.rows))] := by
  simp only [waferChecks, Bool.decide_and]

theorem waferClaimed_iff (s : State) (wafer : Word) :
    s.waferClaimed wafer = true ↔ ∃ h, ∃ c ∈ s.claimsOf h, c.wafer = wafer := by
  simp only [State.waferClaimed, Bool.or_eq_true, List.any_eq_true, beq_iff_eq]
  constructor
  · rintro (claim | claim)
    · exact ⟨.A, claim⟩
    · exact ⟨.B, claim⟩
  · rintro ⟨_ | _, claim⟩
    · exact .inl claim
    · exact .inr claim

/-! ## MAP-OPEN and MAP-ALIGN (R4, R5, R10) -/

section

variable {s : State} {r : Request}

theorem takeMapOpen_of_refused (count : r.words.length = 18)
    (refused : s.map.phase ≠ .none ∨ s.waferClaimed (wordAt r.words 0) = true) :
    takeMapOpen r s = s.reply .cell r.tag .state [] := by
  rw [takeMapOpen, if_neg (not_not_intro count)]
  split
  · rfl
  · next none =>
    rw [if_pos (refused.resolve_left none)]

theorem takeMapOpen_of_bad {pos : Nat} (count : r.words.length = 18) (none : s.map.phase = .none)
    (free : ¬ s.waferClaimed (wordAt r.words 0) = true) (bad : firstBad (waferChecks (waferOf r.words)) = some pos) :
    takeMapOpen r s = s.reply .cell r.tag .badparam [word pos] := by
  simp [takeMapOpen, count, none, free, bad]

theorem takeMapOpen_of_good (count : r.words.length = 18) (none : s.map.phase = .none)
    (free : ¬ s.waferClaimed (wordAt r.words 0) = true) (good : firstBad (waferChecks (waferOf r.words)) = Option.none) :
    takeMapOpen r s = ((s.setMap (DieMap.opened (waferOf r.words))).zeroDrift).reply .cell r.tag .done [] := by
  simp [takeMapOpen, count, none, free, good]

theorem takeMapAlign_of_refused (count : r.words.length = 14)
    (refused : (∀ w, s.map.phase ≠ .ready w) ∨ s.arbiter.station ≠ .free) :
    takeMapAlign r s = s.reply .cell r.tag .state [] := by
  rw [takeMapAlign, if_neg (not_not_intro count)]
  rcases refused with other | busy
  · rw [readyWafer_of_not_ready other]
  · split
    · rfl
    · rw [if_pos busy]

theorem takeMapAlign_of_bad {pos : Nat} {w : WaferInfo} (count : r.words.length = 14) (ready : s.map.phase = .ready w)
    (free : s.arbiter.station = .free)
    (bad : firstBad (transformChecks (transformAt r.words 0) w.columns w.rows 0) = some pos) :
    takeMapAlign r s = s.reply .cell r.tag .badparam [word pos] := by
  simp [takeMapAlign, count, readyWafer_of_ready ready, free, bad]

theorem takeMapAlign_of_good {w : WaferInfo} (count : r.words.length = 14) (ready : s.map.phase = .ready w)
    (free : s.arbiter.station = .free)
    (good : firstBad (transformChecks (transformAt r.words 0) w.columns w.rows 0) = none) : takeMapAlign r s
      = ((s.setMap { s.map with phase := .ready { w with transform := transformAt r.words 0 } }).zeroDrift).reply .cell r.tag
        .done [] := by
  simp [takeMapAlign, count, readyWafer_of_ready ready, free, good, ready, MapPhase.align]

end

/-- Settles O49: the refusals, the first check that fails, and the map and the drift of an accepted request. -/
theorem mapOpenAndAlignTakeFieldsInRange : Obligations.MapOpenAndAlignTakeFieldsInRange := by
  intro s tag c0 r0 x0 y0 dxc dyc dxr dyr steps tr good idle spelt spells goods
  have spelt : steps = transformWords c0 r0 x0 y0 dxc dyc dxr dyr := spelt
  have spells : tr = transformOf c0 r0 x0 y0 dxc dyc dxr dyr := spells
  have good_eq (i columns rows : Nat) : good i columns rows = transformChecks tr columns rows i := by
    rw [goods, transformChecks_eq]
  subst spelt spells
  refine ⟨fun wafer n columns rows words a checks spelt handed listed => ?_, fun a handed => ?_⟩ <;> subst handed
  · have checks_eq : checks = waferChecks (waferOf words) := by
      rw [listed, spelt, waferOf_words, waferChecks_eq, good_eq]
    have count : words.length = 18 := by rw [spelt]; rfl
    have fits : words.length ≤ 24 := by omega
    have named : wordAt words 0 = wafer := by rw [spelt]; rfl
    have taken := exec_mapOpen (tag := tag) idle fits
    refine ⟨fun refused => ?_, fun none free => ?_⟩
    · refine taken.trans (congrArg Host.Outcome.next
        (takeMapOpen_of_refused (s := s.handed .cell .mapOpen tag words) count (refused.imp_right fun claim => ?_)))
      exact (waferClaimed_iff s _).mpr (named ▸ claim)
    · have unclaimed : ¬ s.waferClaimed (wordAt words 0) = true := by
        rw [waferClaimed_iff, named]
        rintro ⟨h, c, mem, same⟩
        exact free h c mem same
      rw [checks_eq]
      refine ⟨fun k pos fails before => ?_, fun all => ?_⟩
      · exact taken.trans (congrArg Host.Outcome.next
          (takeMapOpen_of_bad (s := s.handed .cell .mapOpen tag words) count none unclaimed (firstBad_of_first fails before)))
      · have opened := takeMapOpen_of_good (s := s.handed .cell .mapOpen tag words)
          (r := Command.mapOpen.request tag words) count none unclaimed (firstBad_of_all all)
        rw [show (Command.mapOpen.request tag words).words = words from rfl, congrArg waferOf spelt, waferOf_words] at opened
        exact taken.trans (congrArg Host.Outcome.next opened)
  · have count : (transformWords c0 r0 x0 y0 dxc dyc dxr dyr).length = 14 := rfl
    have taken := exec_mapAlign (tag := tag) (words := transformWords c0 r0 x0 y0 dxc dyc dxr dyr) idle (by omega)
    refine ⟨fun refused => ?_, fun w ready free => ?_⟩
    · exact taken.trans (congrArg Host.Outcome.next
        (takeMapAlign_of_refused (s := s.handed .cell .mapAlign tag _) count refused))
    · rw [good_eq, ← transformAt_words]
      refine ⟨fun k pos fails before => ?_, fun all => ?_⟩
      · exact taken.trans (congrArg Host.Outcome.next
          (takeMapAlign_of_bad (s := s.handed .cell .mapAlign tag _) count ready free (firstBad_of_first fails before)))
      · exact taken.trans (congrArg Host.Outcome.next
          (takeMapAlign_of_good (s := s.handed .cell .mapAlign tag _) count ready free (firstBad_of_all all)))

/-! ## MAP-CLOSE (R8) -/

section

variable {s : State} {r : Request} {w : WaferInfo}

theorem takeMapClose_of_none (none : r.words = []) (unmapped : s.map.phase = .none) :
    takeMapClose r s = s.reply .cell r.tag .state [0, 0] := by
  simp [takeMapClose, none, unmapped]

theorem takeMapClose_of_unfinished (none : r.words = [])
    (other : s.map.phase = .ready w ∨ (s.map.phase = .loading w ∧ s.map.nextIndex < w.dieCount)) :
    takeMapClose r s = s.reply .cell r.tag .state [word s.map.nextIndex, word w.dieCount] := by
  rcases other with ready | ⟨loading, short⟩
  · simp [takeMapClose, none, ready]
  · simp [takeMapClose, none, loading, short]

theorem takeMapClose_of_stored (none : r.words = []) (loading : s.map.phase = .loading w)
    (stored : s.map.nextIndex = w.dieCount) : takeMapClose r s
      = (((s.closeMap w).evalWaferLow).reply .cell r.tag .done [word s.countEligible]).wakeReserves := by
  simp [takeMapClose, none, loading, stored]

end

/-- Settles O51: by the map's phase and the number of die stored. -/
theorem mapCloseMakesTheMapReady : Obligations.MapCloseMakesTheMapReady := by
  intro s tag a idle handed
  subst handed
  refine ⟨fun unmapped => ?_, fun w other => ?_, fun w n loading stored counted => ?_⟩
  · exact (exec_mapClose idle).trans (congrArg Host.Outcome.next (takeMapClose_of_none rfl unmapped))
  · exact (exec_mapClose idle).trans (congrArg Host.Outcome.next (takeMapClose_of_unfinished rfl other))
  · subst counted
    exact (exec_mapClose idle).trans (congrArg Host.Outcome.next (takeMapClose_of_stored rfl loading stored))

/-! ## WAFER-CLOSE and RESOLVE (R11, R22) -/

section

variable {s : State} {r : Request} {w : WaferInfo}

theorem takeWaferClose_of_not_ready (none : r.words = []) (other : ∀ w, s.map.phase ≠ .ready w) :
    takeWaferClose r s = s.reply .cell r.tag .state [] := by
  simp [takeWaferClose, none, readyWafer_of_not_ready other]

theorem busy_iff (c : DieCounts) : c.busy = true ↔ 0 < c.reserved + c.staging + c.presented := by
  simp [DieCounts.busy, or_assoc]

theorem takeWaferClose_of_busy (none : r.words = []) (ready : s.map.phase = .ready w)
    (busy : 0 < s.map.counts.reserved + s.map.counts.staging + s.map.counts.presented) :
    takeWaferClose r s = s.reply .cell r.tag .state [] := by
  simp [takeWaferClose, none, readyWafer_of_ready ready, (busy_iff _).mpr busy]

theorem takeWaferClose_of_free (none : r.words = []) (ready : s.map.phase = .ready w)
    (free : s.map.counts.reserved + s.map.counts.staging + s.map.counts.presented = 0) : takeWaferClose r s
      = ((s.notify .waferClosed [w.wafer, word s.map.counts.placed, word s.map.counts.available,
          word s.map.counts.suspect]).setMap s.map.closed).reply .cell r.tag .done
        (w.wafer :: s.map.counts.toList.map word) := by
  have quiet : ¬ s.map.counts.busy = true := by rw [busy_iff]; omega
  simp [takeWaferClose, none, readyWafer_of_ready ready, quiet]

variable {index disposition : Word}

theorem takeResolve_of_not_ready (words : r.words = [index, disposition]) (other : ∀ w, s.map.phase ≠ .ready w) :
    takeResolve r s = s.reply .cell r.tag .state [] := by
  simp [takeResolve, words, readyWafer_of_not_ready other]

theorem takeResolve_of_beyond (words : r.words = [index, disposition]) (ready : s.map.phase = .ready w)
    (beyond : w.dieCount ≤ index.toNat ∨ 1 < disposition.toNat) :
    takeResolve r s = s.reply .cell r.tag .badparam [] := by
  simp [takeResolve, words, readyWafer_of_ready ready, natAt, wordAt, beyond]

variable {d : DieRecord}

theorem takeResolve_of_other (words : r.words = [index, disposition]) (ready : s.map.phase = .ready w)
    (known : disposition.toNat ≤ 1) (inside : index.toNat < w.dieCount) (found : s.map.table[index.toNat]? = some d)
    (other : d.state ≠ .suspect) : takeResolve r s = s.reply .cell r.tag .state [] := by
  have ok : ¬(w.dieCount ≤ index.toNat ∨ 1 < disposition.toNat) := by omega
  simp [takeResolve, words, readyWafer_of_ready ready, natAt, wordAt, ok, found, other]

theorem takeResolve_of_available (words : r.words = [index, 0]) (ready : s.map.phase = .ready w)
    (inside : index.toNat < w.dieCount) (found : s.map.table[index.toNat]? = some d) (suspect : d.state = .suspect) :
    takeResolve r s = (s.moveDie w.wafer index.toNat .available none none).reply .cell r.tag .done
      [word DieState.available.code] := by
  simp [takeResolve, words, readyWafer_of_ready ready, natAt, wordAt, Nat.not_le.mpr inside, found, suspect]

theorem takeResolve_of_rejected (words : r.words = [index, 1]) (ready : s.map.phase = .ready w)
    (inside : index.toNat < w.dieCount) (found : s.map.table[index.toNat]? = some d) (suspect : d.state = .suspect) :
    takeResolve r s = (s.moveDie w.wafer index.toNat .rejected (some .resolved) none).reply .cell r.tag .done
      [word DieState.rejected.code] := by
  simp [takeResolve, words, readyWafer_of_ready ready, natAt, wordAt, Nat.not_le.mpr inside, found, suspect]

end

/-- Settles O53: without a READY map, then WAFER-CLOSE by its open die and RESOLVE by the record named. -/
theorem waferCloseAndResolveEndTheWafersOpenDie : Obligations.WaferCloseAndResolveEndTheWafersOpenDie := by
  refine fun s tag idle => ⟨fun other => ⟨?_, fun index d => ?_⟩, fun w ready =>
    ⟨fun a u handed noticed => ⟨fun busy => ?_, fun free => ?_⟩, fun index disposition a handed =>
      ⟨fun beyond => ?_, fun d inside found => ⟨fun known other => ?_, fun suspect is => ?_, fun suspect is => ?_⟩⟩⟩⟩
  · exact (exec_waferClose idle).trans (congrArg Host.Outcome.next (takeWaferClose_of_not_ready rfl other))
  · exact (exec_resolve idle (by simp)).trans (congrArg Host.Outcome.next (takeResolve_of_not_ready rfl other))
  · subst handed
    exact (exec_waferClose idle).trans (congrArg Host.Outcome.next (takeWaferClose_of_busy rfl ready busy))
  · subst handed noticed
    exact (exec_waferClose idle).trans (congrArg Host.Outcome.next (takeWaferClose_of_free rfl ready free))
  · subst handed
    exact (exec_resolve idle (by simp)).trans (congrArg Host.Outcome.next (takeResolve_of_beyond rfl ready beyond))
  · subst handed
    exact (exec_resolve idle (by simp)).trans
      (congrArg Host.Outcome.next (takeResolve_of_other rfl ready known inside found other))
  · subst is handed
    exact (exec_resolve idle (by simp)).trans
      (congrArg Host.Outcome.next (takeResolve_of_available rfl ready inside found suspect))
  · subst is handed
    exact (exec_resolve idle (by simp)).trans
      (congrArg Host.Outcome.next (takeResolve_of_rejected rfl ready inside found suspect))

end Sys2Proof.Machine
end

section
/-! THEOREMS. The strips, the index and the clearing of the track on the cell port (O55 to O57). -/

namespace Sys2Proof.Machine

open Sys2Proof

section

variable {s : State} {tag : Byte} {words : List Word}

theorem exec_stripLoad (idle : s.Idle .cell) (fits : words.length ≤ 24) : exec (.stripLoad tag words) s
    = .next (takeStripLoad (Command.stripLoad.request tag words) (s.handed .cell .stripLoad tag words)) :=
  exec_handed (c := .stripLoad) rfl idle fits (by decide) (by decide)

theorem exec_stripBad (idle : s.Idle .cell) (fits : words.length ≤ 24) : exec (.stripBad tag words) s
    = .next (takeStripBad (Command.stripBad.request tag words) (s.handed .cell .stripBad tag words)) :=
  exec_handed (c := .stripBad) rfl idle fits (by decide) (by decide)

theorem exec_indexRequest (idle : s.Idle .cell) (fits : words.length ≤ 24) : exec (.indexRequest tag words) s
    = .next (takeIndexRequest (Command.indexRequest.request tag words) (s.handed .cell .indexRequest tag words)) :=
  exec_handed (c := .indexRequest) rfl idle fits (by decide) (by decide)

theorem exec_indexCancel (idle : s.Idle .cell) : exec (.indexCancel tag []) s
    = .next (takeIndexCancel (Command.indexCancel.request tag []) (s.handed .cell .indexCancel tag [])) :=
  exec_handed (c := .indexCancel) rfl idle (Nat.zero_le _) (by decide) (by decide)

theorem exec_indexDone (idle : s.Idle .cell) : exec (.indexDone tag []) s
    = .next (takeIndexDone (Command.indexDone.request tag []) (s.handed .cell .indexDone tag [])) :=
  exec_handed (c := .indexDone) rfl idle (Nat.zero_le _) (by decide) (by decide)

theorem exec_trackClear (idle : s.Idle .cell) : exec (.trackClear tag []) s
    = .next (takeTrackClear (Command.trackClear.request tag []) (s.handed .cell .trackClear tag [])) :=
  exec_handed (c := .trackClear) rfl idle (Nat.zero_le _) (by decide) (by decide)

end

/-! ## STRIP-LOAD (R74) -/

theorem stripKnown_iff (s : State) (id : Word) : s.stripKnown id = true
    ↔ (∃ st ∈ s.track.strips, st.id = id) ∨ ∃ p c, s.columnAt p = some c ∧ c.strip = id := by
  simp only [State.stripKnown, Bool.or_eq_true, List.any_eq_true, beq_iff_eq, mem_columns]
  refine or_congr_right ⟨?_, ?_⟩
  · rintro ⟨c, ⟨p, column⟩, strip⟩
    exact ⟨p, c, column, strip⟩
  · rintro ⟨p, c, column, strip⟩
    exact ⟨c, ⟨p, column⟩, strip⟩

section

variable {s : State} {r : Request} {id count mask : Word}

theorem takeStripLoad_of_bad_count (words : r.words = [id, count, mask]) (bad : count.toNat < 1 ∨ 64 < count.toNat) :
    takeStripLoad r s = s.reply .cell r.tag .badparam [1] := by
  have refused : firstBad (stripChecks [id, count, mask]) = some 1 := by
    have no : ¬(1 ≤ count.toNat ∧ count.toNat ≤ 64) := by omega
    simp [stripChecks, firstBad, natAt, wordAt, no]
  simp only [takeStripLoad, words, refused]
  rfl

theorem takeStripLoad_of_bad_mask (words : r.words = [id, count, mask]) (first : 1 ≤ count.toNat)
    (last : count.toNat ≤ 64) (bad : 256 ≤ mask.toNat) : takeStripLoad r s = s.reply .cell r.tag .badparam [2] := by
  have refused : firstBad (stripChecks [id, count, mask]) = some 2 := by
    simp [stripChecks, firstBad, natAt, wordAt, first, last, Nat.not_lt.mpr bad]
  simp only [takeStripLoad, words, refused]
  rfl

theorem stripChecks_good (first : 1 ≤ count.toNat) (last : count.toNat ≤ 64) (good : mask.toNat < 256) :
    firstBad (stripChecks [id, count, mask]) = none := by
  simp [stripChecks, firstBad, natAt, wordAt, first, last, good]

variable (words : r.words = [id, count, mask]) (good : firstBad (stripChecks [id, count, mask]) = none)
include words good

theorem takeStripLoad_of_known (known : s.stripKnown id = true) : takeStripLoad r s = s.reply .cell r.tag .state [] := by
  simp [takeStripLoad, words, good, wordAt, known]

theorem takeStripLoad_of_full (new : ¬ s.stripKnown id = true) (full : 4 ≤ s.track.strips.length) :
    takeStripLoad r s = s.reply .cell r.tag .full [] := by
  simp [takeStripLoad, words, good, wordAt, new, full]

theorem takeStripLoad_of_room (new : ¬ s.stripKnown id = true) (room : s.track.strips.length < 4) :
    takeStripLoad r s = (s.setTrack { s.track with
      strips := s.track.strips ++ [stripOf [id, count, mask]] }).reply .cell r.tag .done
        [word (s.track.strips.length + 1)] := by
  simp [takeStripLoad, words, good, wordAt, new, Nat.not_le.mpr room]

end

/-! ## STRIP-BAD (R75, R76) -/

/-- A named row's CLEAN site becomes ABSENT, every other site stays. -/
theorem markRows_getElem? (m : Byte) (sites : List Site) (k r : Nat) : (markRows m k sites)[r]?
    = sites[r]?.map fun x => if m.getLsbD (k + r) = true ∧ x = .clean then .absent else x := by
  induction sites generalizing k r with
  | nil => simp [markRows]
  | cons x rest ih =>
    cases r with
    | zero => simp [markRows]
    | succ r => simp [markRows, ih, Nat.add_assoc, Nat.add_comm 1]

theorem countRows_eq_countP (m : Byte) (sites : List Site) (k : Nat) : countRows m k sites
    = (List.range sites.length).countP fun r => m.getLsbD (k + r) && sites[r]? == some .clean := by
  induction sites generalizing k with
  | nil => rfl
  | cons x rest ih =>
    rw [countRows, ih, List.length_cons, List.range_succ_eq_map, List.countP_cons, List.countP_map, bit_eq_ite, Nat.add_comm]
    simp [Function.comp_def, Nat.add_assoc, Nat.add_comm 1]

section

variable {s : State} {r : Request} {id column mask : Word}

theorem takeStripBad_of_bad (words : r.words = [id, column, mask]) (bad : 256 ≤ mask.toNat ∨ 64 ≤ column.toNat) :
    takeStripBad r s = s.reply .cell r.tag .badparam [] := by
  simp [takeStripBad, words, natAt, wordAt, bad]

variable (words : r.words = [id, column, mask]) (narrow : mask.toNat < 256) (inside : column.toNat < 64)
include words narrow inside

theorem takeStripBad_of_track {p : Nat} {c : Column} (found : s.findColumn id column.toNat = some p)
    (there : s.columnAt p = some c) : takeStripBad r s
      = (s.badOnTrack p c (mask.extractLsb' 0 8)).reply .cell r.tag .done
        [word (countRows (mask.extractLsb' 0 8) 0 c.sites)] := by
  simp [takeStripBad, words, natAt, wordAt, Nat.not_le.mpr narrow, Nat.not_le.mpr inside, found, there]

variable (off : s.findColumn id column.toNat = none)
include off

theorem takeStripBad_of_unknown (unknown : s.queuedStrip id = none) : takeStripBad r s = s.reply .cell r.tag .state [] := by
  simp [takeStripBad, words, natAt, wordAt, Nat.not_le.mpr narrow, Nat.not_le.mpr inside, off, unknown]

theorem takeStripBad_of_queued {st : Strip} (queued : s.queuedStrip id = some st) : takeStripBad r s
    = if st.count ≤ column.toNat then s.reply .cell r.tag .badparam []
      else if column.toNat < st.next then s.reply .cell r.tag .state []
      else (s.badInQueue id column.toNat (mask.extractLsb' 0 8)).reply .cell r.tag .done
        [word (maskBits (st.masks.getD column.toNat 0 &&& mask.extractLsb' 0 8))] := by
  simp [takeStripBad, words, natAt, wordAt, Nat.not_le.mpr narrow, Nat.not_le.mpr inside, off, queued]

end

section

variable {s : State} {id : Word} {before rest : List Strip} {st : Strip}

theorem queuedStrip_of_split (split : s.track.strips = before ++ st :: rest) (named : st.id = id)
    (others : ∀ x ∈ before ++ rest, x.id ≠ id) : s.queuedStrip id = some st := by
  rw [State.queuedStrip, split, List.find?_eq_some_iff_append]
  refine ⟨by simp [named], before, rest, rfl, fun x mem => ?_⟩
  simp [others x (List.mem_append_left _ mem)]

/-- Clearing the pads of the queued strip leaves the others as they are. -/
theorem badInQueue_of_split (split : s.track.strips = before ++ st :: rest) (named : st.id = id)
    (others : ∀ x ∈ before ++ rest, x.id ≠ id) (column : Nat) (m : Byte) : s.badInQueue id column m
      = s.setTrack { s.track with strips := before ++ st.clearPads column m :: rest } := by
  have kept {l : List Strip} (sub : ∀ x ∈ l, x.id ≠ id) :
      (l.map fun x => if x.id == id then x.clearPads column m else x) = l := by
    refine (List.map_congr_left fun x mem => ?_).trans (List.map_id l)
    simp [sub x mem]
  rw [State.badInQueue, split, List.map_append, List.map_cons, kept fun x mem => others x (List.mem_append_left _ mem),
    kept fun x mem => others x (List.mem_append_right _ mem)]
  simp [named]

end

/-- Settles O55: STRIP-LOAD by its fields and the strips known; STRIP-BAD on the track, and in the queue. -/
theorem stripLoadQueuesAndStripBadMarksPads : Obligations.StripLoadQueuesAndStripBadMarksPads := by
  refine ⟨fun s tag id count mask a idle handed => ?_, fun s tag id column mask m a idle handed masked => ?_,
    fun m sites => ⟨fun r => ?_, ?_⟩⟩
  · subst handed
    have taken := exec_stripLoad (tag := tag) (words := [id, count, mask]) idle (by simp)
    refine ⟨fun bad => ?_, fun first last bad => ?_, fun first last small => ⟨fun known => ?_, fun newStrip newColumn =>
      ⟨fun full => ?_, fun room => ?_⟩⟩⟩
    · exact taken.trans (congrArg Host.Outcome.next (takeStripLoad_of_bad_count rfl bad))
    · exact taken.trans (congrArg Host.Outcome.next (takeStripLoad_of_bad_mask rfl first last bad))
    · exact taken.trans (congrArg Host.Outcome.next (takeStripLoad_of_known (s := s.handed .cell .stripLoad tag _) rfl
        (stripChecks_good first last small) ((stripKnown_iff s id).mpr known)))
    all_goals
      have new : ¬ s.stripKnown id = true := by
        rw [stripKnown_iff]
        rintro (⟨st, mem, named⟩ | ⟨p, c, there, named⟩)
        · exact newStrip st mem named
        · exact newColumn p c there named
    · exact taken.trans (congrArg Host.Outcome.next (takeStripLoad_of_full (s := s.handed .cell .stripLoad tag _) rfl
        (stripChecks_good first last small) new full))
    · exact taken.trans (congrArg Host.Outcome.next (takeStripLoad_of_room (s := s.handed .cell .stripLoad tag _) rfl
        (stripChecks_good first last small) new room))
  · subst handed masked
    have taken := exec_stripBad (tag := tag) (words := [id, column, mask]) idle (by simp)
    refine ⟨fun bad => ?_, fun narrow inside => ⟨fun p c u found there marked => ?_, fun off => ⟨fun unknown => ?_,
      fun before st rest split named others => ?_⟩⟩⟩
    · exact taken.trans (congrArg Host.Outcome.next (takeStripBad_of_bad rfl bad))
    · subst marked
      exact taken.trans (congrArg Host.Outcome.next
        (takeStripBad_of_track (s := s.handed .cell .stripBad tag _) rfl narrow inside found there))
    · refine taken.trans (congrArg Host.Outcome.next
        (takeStripBad_of_unknown (s := s.handed .cell .stripBad tag _) rfl narrow inside off ?_))
      exact List.find?_eq_none.mpr fun st mem => by simp [unknown st mem]
    · have queued := takeStripBad_of_queued (s := s.handed .cell .stripBad tag [id, column, mask])
        (r := Command.stripBad.request tag [id, column, mask]) rfl narrow inside off
        (queuedStrip_of_split (s := s) split named others)
      refine ⟨fun beyond => ?_, fun has entered => ?_, fun has waits => ?_⟩
      · rw [if_pos beyond] at queued
        exact taken.trans (congrArg Host.Outcome.next queued)
      · rw [if_neg (Nat.not_le.mpr has), if_pos entered] at queued
        exact taken.trans (congrArg Host.Outcome.next queued)
      · rw [if_neg (Nat.not_le.mpr has), if_neg (Nat.not_lt.mpr waits), badInQueue_of_split (s := s.handed .cell .stripBad
          tag [id, column, mask]) split named others] at queued
        refine (taken.trans (congrArg Host.Outcome.next queued)).trans ?_
        simp only [maskBits, BitVec.getLsbD_and]
        rfl
  · simpa using markRows_getElem? m sites 0 r
  · simpa using countRows_eq_countP m sites 0

/-! ## The index (R78 to R80) -/

section

variable {s : State} {r : Request}

theorem takeIndexRequest_of_bad {n : Word} (words : r.words = [n]) (open_ : s.mode ≠ .halt)
    (bad : n.toNat < 1 ∨ 8 < n.toNat) : takeIndexRequest r s = s.reply .cell r.tag .badparam [] := by
  simp only [takeIndexRequest, words, natAt, wordAt, List.length_singleton, ne_eq, not_true_eq_false, if_false, open_,
    List.getD_cons_zero, bad, if_true]

theorem takeIndexRequest_of_moving {n : Word} (words : r.words = [n]) (open_ : s.mode ≠ .halt) (first : 1 ≤ n.toNat)
    (last : n.toNat ≤ 8) (moving : s.track.phase ≠ .still) :
    takeIndexRequest r s = s.reply .cell r.tag .state [word s.track.phase.code] := by
  have good : ¬(n.toNat < 1 ∨ 8 < n.toNat) := by omega
  simp only [takeIndexRequest, words, natAt, wordAt, List.length_singleton, ne_eq, not_true_eq_false, if_false, open_,
    List.getD_cons_zero, good, moving, not_false_eq_true, if_true]

theorem takeIndexRequest_of_still {n : Word} (words : r.words = [n]) (open_ : s.mode ≠ .halt) (first : 1 ≤ n.toNat)
    (last : n.toNat ≤ 8) (still : s.track.phase = .still) : takeIndexRequest r s
      = ((s.setTrack { s.track with phase := .draining n.toNat }).reply .cell r.tag .done [word s.inFlight]).drainTest := by
  have good : ¬(n.toNat < 1 ∨ 8 < n.toNat) := by omega
  simp only [takeIndexRequest, words, natAt, wordAt, List.length_singleton, ne_eq, not_true_eq_false, if_false, open_,
    List.getD_cons_zero, good, still]

theorem takeIndexCancel_of_draining {n : Nat} (none : r.words = []) (draining : s.track.phase = .draining n) :
    takeIndexCancel r s = (s.reply .cell r.tag .done []).becomeStill := by
  simp [takeIndexCancel, none, draining]

theorem takeIndexCancel_of_other (none : r.words = []) (other : ∀ n, s.track.phase ≠ .draining n) :
    takeIndexCancel r s = s.reply .cell r.tag .state [word s.track.phase.code] := by
  cases phase : s.track.phase with
  | draining n => exact absurd phase (other n)
  | _ => simp [takeIndexCancel, none, phase]

theorem inFlight_eq_zero_iff (s : State) : s.inFlight = 0 ↔ ∀ p row x, s.siteAt p row = some x → x.inFlight = false := by
  rw [State.inFlight, ← Nat.le_zero, ← Nat.not_lt, countSites_pos_iff]
  push Not
  simp

theorem Site.inFlight_eq_false_iff (x : Site) :
    x.inFlight = false ↔ (∀ t, x ≠ .dispensing t) ∧ ∀ st h t l, x ≠ .assigned st h t l := by
  cases x with
  | dispensing t => exact iff_of_false nofun fun ⟨notDispensing, _⟩ => notDispensing t rfl
  | assigned st h t l => exact iff_of_false nofun fun ⟨_, notAssigned⟩ => notAssigned st h t l rfl
  | _ => exact iff_of_true rfl ⟨nofun, nofun⟩

theorem leavingCount_eq_countP (s : State) (n : Nat) : s.leavingCount n = (List.range s.settings.trackLength).countP fun p =>
    decide (s.settings.trackLength - n ≤ p) && (s.columnAt p).isSome :=
  List.countP_eq_length_filter.symm

theorem drainTest_of_busy {n : Nat} (draining : s.track.phase = .draining n) (busy : s.inFlight ≠ 0) :
    s.drainTest = s := by
  simp [State.drainTest, draining, busy]

theorem drainTest_of_quiet {n : Nat} (draining : s.track.phase = .draining n) (quiet : s.inFlight = 0) :
    s.drainTest = (s.setTrack { s.track with phase := .moving n }).notify .indexReady
      [word n, word (s.leavingCount n)] := by
  simp [State.drainTest, draining, quiet]

end

/-- Settles O56: the request and the cancel by the track's state; the drain test by the sites in progress. -/
theorem indexRequestDrainsTheTrack : Obligations.IndexRequestDrainsTheTrack := by
  refine fun s tag idle => ⟨fun n a open_ handed => ⟨fun bad => ?_, fun first last => ⟨fun moving => ?_, fun still => ?_⟩⟩,
    fun a handed => ⟨fun n draining => ?_, fun other => ?_⟩, ?_,
    fun n draining => ⟨drainTest_of_busy draining, fun quiet => ?_⟩, drainTest_of_not_draining⟩
  · subst handed
    exact (exec_indexRequest idle (by simp)).trans (congrArg Host.Outcome.next (takeIndexRequest_of_bad rfl open_ bad))
  · subst handed
    exact (exec_indexRequest idle (by simp)).trans
      (congrArg Host.Outcome.next (takeIndexRequest_of_moving rfl open_ first last moving))
  · subst handed
    exact (exec_indexRequest idle (by simp)).trans
      (congrArg Host.Outcome.next (takeIndexRequest_of_still rfl open_ first last still))
  · subst handed
    exact (exec_indexCancel idle).trans (congrArg Host.Outcome.next (takeIndexCancel_of_draining rfl draining))
  · subst handed
    exact (exec_indexCancel idle).trans (congrArg Host.Outcome.next (takeIndexCancel_of_other rfl other))
  · simp only [inFlight_eq_zero_iff, Site.inFlight_eq_false_iff]
  · rw [drainTest_of_quiet draining quiet, leavingCount_eq_countP]
    rfl

/-! ## INDEX-DONE and TRACK-CLEAR (R82 to R87) -/

section

variable {s : State} {r : Request}

theorem takeIndexDone_of_moving {n : Nat} (none : r.words = []) (moving : s.track.phase = .moving n) : takeIndexDone r s
    = ((s.shift n).reply .cell r.tag .done
        [word (s.leavingCount n), word ((s.shift n).filledCount n), word (n - (s.shift n).filledCount n),
          word (s.shift n).track.entry.val]).becomeStill := by
  simp [takeIndexDone, none, moving]

theorem takeIndexDone_of_other (none : r.words = []) (other : ∀ n, s.track.phase ≠ .moving n) :
    takeIndexDone r s = s.reply .cell r.tag .state [word s.track.phase.code] := by
  cases phase : s.track.phase with
  | moving n => exact absurd phase (other n)
  | _ => simp [takeIndexDone, none, phase]

theorem takeTrackClear_of_still (none : r.words = []) (setup : s.mode = .setup) (still : s.track.phase = .still) :
    takeTrackClear r s = s.clearTrack.reply .cell r.tag .done [word s.columns.length, word s.track.strips.length] := by
  simp [takeTrackClear, none, setup, still]

theorem takeTrackClear_of_moving (none : r.words = []) (setup : s.mode = .setup) (moving : s.track.phase ≠ .still) :
    takeTrackClear r s = s.reply .cell r.tag .state [word s.track.phase.code] := by
  simp [takeTrackClear, none, setup, moving]

theorem filledCount_eq_countP (s : State) (n : Nat) :
    s.filledCount n = (List.range n).countP fun p => (s.columnAt p).isSome :=
  List.countP_eq_length_filter.symm

theorem columns_length (s : State) :
    s.columns.length = (List.range s.settings.trackLength).countP fun p => (s.columnAt p).isSome :=
  List.length_filterMap_eq_countP ..

/-- The last `n` positions, from the highest down (R83). -/
theorem leavingPositions_eq_map {n : Nat} (inside : n ≤ s.settings.trackLength) :
    s.leavingPositions n = (List.range n).map fun k => s.settings.trackLength - 1 - k := by
  cases length : s.settings.trackLength with
  | zero =>
    obtain rfl : n = 0 := by omega
    simp [State.leavingPositions, State.positions, length]
  | succ last =>
    have window : s.leavingPositions n = windowDown (last + 1 - n) last := by
      simp only [State.leavingPositions, State.positions, length, windowDown]
    have count : last + 1 - (last + 1 - n) = n := by omega
    rw [window, windowDown_eq_map, count]
    rfl

theorem removeColumn_of_none {p : Nat} (none : s.columnAt p = Option.none) : s.removeColumn p = s := by
  simp [State.removeColumn, none]

theorem removeColumn_of_some {p : Nat} {c : Column} (there : s.columnAt p = some c) : s.removeColumn p
    = ({ s with
        track := { s.track with ring := s.track.ring.set (s.track.slot p) none }
        dispenser := { s.dispenser with wet := s.dispenser.wet - c.sites.countP Site.isWet } }).notify .columnExit
      ({ c with sites := c.sites.map Site.atExit }).exitWords := by
  simp only [State.removeColumn, there]
  rfl

theorem fillPosition_of_empty (empty : s.track.strips = []) (p : Nat) : s.fillPosition p = s := by
  simp [State.fillPosition, empty, drawColumn]

theorem fillPosition_of_strip {st : Strip} {rest : List Strip} (head : s.track.strips = st :: rest) (p : Nat) :
    s.fillPosition p = { s with track := { s.track with
      ring := s.track.ring.set (s.track.slot p)
        (some ⟨st.id, st.next, sitesOfMask s.settings.rows (st.masks.getD st.next 0)⟩)
      strips := if st.next + 1 = st.count then rest else { st with next := st.next + 1 } :: rest } } := by
  simp only [State.fillPosition, head, drawColumn]
  rfl

end

/-- Settles O57: INDEX-DONE, TRACK-CLEAR, and each step of the shift. -/
theorem indexDoneShiftsAndTrackClearEmptiesTheTrack : Obligations.IndexDoneShiftsAndTrackClearEmptiesTheTrack := by
  refine ⟨fun s tag idle => ⟨fun a t n k handed moving shifted filled => ?_, fun other => ?_,
      fun a t handed setup still emptied => ?_, fun setup moving => ?_⟩,
    fun s n inside => leavingPositions_eq_map inside, fun s n _ => rfl, fun s n => rfl,
    fun s p none => removeColumn_of_none none, fun s p c out there converted => ?_,
    fun s p => ⟨fun empty => fillPosition_of_empty empty p, fun st rest head => fillPosition_of_strip head p⟩⟩
  · subst handed
    have taken := (exec_indexDone (tag := tag) idle).trans (congrArg Host.Outcome.next
      (takeIndexDone_of_moving (s := s.handed .cell .indexDone tag []) rfl moving))
    have shift : (s.handed .cell .indexDone tag []).shift n = t := shifted.symm
    rw [shift, filledCount_eq_countP, ← filled, leavingCount_eq_countP] at taken
    exact taken
  · exact (exec_indexDone idle).trans (congrArg Host.Outcome.next (takeIndexDone_of_other rfl other))
  · subst handed
    have taken := (exec_trackClear (tag := tag) idle).trans (congrArg Host.Outcome.next
      (takeTrackClear_of_still (s := s.handed .cell .trackClear tag []) rfl setup still))
    have removed : (s.handed .cell .trackClear tag []).removeColumns (s.handed .cell .trackClear tag []).positions.reverse
        = t := emptied.symm
    rw [State.clearTrack, removed, columns_length] at taken
    exact taken
  · exact (exec_trackClear idle).trans (congrArg Host.Outcome.next (takeTrackClear_of_moving rfl setup moving))
  · have exits : out = c.sites.map Site.atExit := by
      rw [converted]
      exact List.map_congr_left fun x _ => by cases x <;> rfl
    rw [removeColumn_of_some there, exits]
    rfl

end Sys2Proof.Machine
end

section
/-! THEOREMS. The requests that only read, and the words they give (O58). -/

namespace Sys2Proof.Machine

open Sys2Proof

/-! ## The reading requests (R41, R65, R89, R155) -/

section

variable {s : State} {tag : Byte} {words : List Word}

theorem exec_claims {h : Head} (idle : s.Idle h.port) : exec (.claims h tag []) s
    = .next (takeClaims h (Command.claims.request tag []) (s.handed h.port .claims tag [])) := by
  cases h <;> exact exec_handed (p := Head.port _) (c := .claims) (words := []) rfl idle (Nat.zero_le _) (by decide) (by decide)

theorem exec_readClaims (idle : s.Idle .cell) (fits : words.length ≤ 24) : exec (.readClaims tag words) s
    = .next (takeReadClaims (Command.readClaims.request tag words) (s.handed .cell .readClaims tag words)) :=
  exec_handed (c := .readClaims) rfl idle fits (by decide) (by decide)

theorem exec_readSite (idle : s.Idle .cell) (fits : words.length ≤ 24) : exec (.readSite tag words) s
    = .next (takeReadSite (Command.readSite.request tag words) (s.handed .cell .readSite tag words)) :=
  exec_handed (c := .readSite) rfl idle fits (by decide) (by decide)

theorem exec_readStatus (idle : s.Idle .cell) (fits : words.length ≤ 24) : exec (.readStatus tag words) s
    = .next (takeReadStatus (Command.readStatus.request tag words) (s.handed .cell .readStatus tag words)) :=
  exec_handed (c := .readStatus) rfl idle fits (by decide) (by decide)

theorem exec_readStation (idle : s.Idle .cell) : exec (.readStation tag []) s
    = .next (takeReadStation (Command.readStation.request tag []) (s.handed .cell .readStation tag [])) :=
  exec_handed (c := .readStation) rfl idle (Nat.zero_le _) (by decide) (by decide)

end

theorem headOf_code (h : Head) : headOf (word h.code) = some h := by cases h <;> rfl

theorem headOf_of_other {w : Word} (notA : w ≠ 1) (notB : w ≠ 2) : headOf w = none := by
  rw [headOf, if_neg notA, if_neg notB]

section

variable {s : State} {r : Request}

theorem takeClaims_of_none {h : Head} (none : r.words = []) :
    takeClaims h r s = s.reply h.port r.tag .done (s.claimWords h) := by
  simp [takeClaims, none]

theorem takeReadClaims_of_head {h : Head} (words : r.words = [word h.code]) :
    takeReadClaims r s = s.reply .cell r.tag .done (s.claimWords h) := by
  simp [takeReadClaims, words, wordAt, headOf_code]

theorem takeReadClaims_of_other {w : Word} (words : r.words = [w]) (notA : w ≠ 1) (notB : w ≠ 2) :
    takeReadClaims r s = s.reply .cell r.tag .badparam [] := by
  simp [takeReadClaims, words, wordAt, headOf_of_other notA notB]

theorem takeReadSite_of_beyond {p row : Word} (words : r.words = [p, row])
    (beyond : s.settings.trackLength ≤ p.toNat ∨ 7 < row.toNat) : takeReadSite r s = s.reply .cell r.tag .badparam [] := by
  simp [takeReadSite, words, natAt, wordAt, beyond]

theorem takeReadSite_of_inside {p row : Word} (words : r.words = [p, row]) (inside : p.toNat < s.settings.trackLength)
    (low : row.toNat ≤ 7) : takeReadSite r s
      = s.reply .cell r.tag .done (siteWords (s.columnAt p.toNat) (s.siteAt p.toNat row.toNat)) := by
  simp [takeReadSite, words, natAt, wordAt, Nat.not_le.mpr inside, Nat.not_lt.mpr low]

theorem statusPage_of_beyond {k : Nat} (beyond : 2 < k) : s.statusPage k = none := by
  unfold State.statusPage
  split
  · omega
  · omega
  · omega
  · rfl

/-- The three pages of READ-STATUS (R155). -/
theorem statusPage_of_page {k : Word} (page : k.toNat ≤ 2) :
    s.statusPage k.toNat = some (if k = 0 then s.page0 else if k = 1 then s.page1 else s.page2) := by
  have cases_ : k = 0 ∨ k = 1 ∨ k = 2 := by bv_omega
  rcases cases_ with rfl | rfl | rfl <;> rfl

theorem takeReadStatus_of_none {k : Word} (words : r.words = [k]) (none : s.statusPage k.toNat = Option.none) :
    takeReadStatus r s = s.reply .cell r.tag .badparam [] := by
  simp [takeReadStatus, words, natAt, wordAt, none]

theorem takeReadStatus_of_page {k : Word} {ws : List Word} (words : r.words = [k])
    (page : s.statusPage k.toNat = some ws) : takeReadStatus r s = s.reply .cell r.tag .done ws := by
  simp [takeReadStatus, words, natAt, wordAt, page]

theorem takeReadStation_of_none (none : r.words = []) :
    takeReadStation r s = s.reply .cell r.tag .done s.stationWords := by
  simp [takeReadStation, none]

end

/-! ## PORT-STATUS (R183, R185) -/

/-- A reply joins its queue without letting a request be taken. -/
theorem answered_settled {s : State} (settled : s.Settled) (p : Port) (r : Request) (code : ReplyCode) (ws : List Word) :
    (s.answered p r code ws).Settled := by
  rw [settled_iff] at settled ⊢
  intro q
  by_cases same : q = p
  · subst same
    have before := settled q
    simp only [Link.canTake, Bool.and_eq_false_iff, decide_eq_false_iff_not] at before
    simp only [State.answered, reply_link, accepted_link, Link.canTake, Bool.and_eq_false_iff, decide_eq_false_iff_not,
      List.length_append]
    exact before.imp_right fun full => by omega
  · rw [State.answered, reply_link_ne _ _ _ _ same, accepted_link_ne _ _ same]
    exact settled q

theorem exec_portStatus {s : State} {p : Port} {tag : Byte} (running : s.inReset = false) (started : s.mode ≠ .init)
    (settled : s.Settled) (room : (s.link p).replies.length ≤ 6 ∨ ((s.link p).held = none ∧ (s.link p).replies.length ≤ 7)) :
    exec (.portStatus p tag []) s = .next ((s.handed p .portStatus tag []).reply p tag .done
      ((s.handed p .portStatus tag []).portStatusWords p)) := by
  have hasRoom : (s.link p).hasRoom = true := by
    rw [Link.hasRoom, decide_eq_true_eq]
    rcases room with few | ⟨free, few⟩
    · split <;> omega
    · simp [free, few]
  have role : p.codes.contains Command.portStatus.code = true := by cases p <;> decide
  have immediate : p.isImmediate Command.portStatus.code = true := by cases p <;> decide
  have notReset : isSoftReset p (Command.portStatus.request tag []) = false := by cases p <;> rfl
  have taken := exec_immediate (i := .portStatus p tag []) (s := s) rfl running started hasRoom (Nat.zero_le _) immediate role
    notReset
  have answered : takeCommand p .portStatus (Command.portStatus.request tag []) (s.handed p .portStatus tag [])
      = s.answered p (Command.portStatus.request tag []) .done ((s.handed p .portStatus tag []).portStatusWords p) := rfl
  rw [answered, settle_of_settled (answered_settled settled ..)] at taken
  exact taken

/-! ## The words of the tables (R65, R89, R156 to R158, R185) -/

/-- A flag of a word, as its weight (as the tables write it). -/
theorem flag_eq {flag : Bool → Nat → Nat} (flags : ∀ b n, flag b n = if b then n else 0) :
    flag = fun b n => bit b * n := by
  funext b n
  rw [flags, bit_mul]

theorem page0_eq {s : State} {w : Word} {map : List Word} {flag : Bool → Nat → Nat}
    (flags : ∀ b n, flag b n = if b then n else 0)
    (mapWords : (s.map.phase = .none ∧ map = [0, 0, 0])
      ∨ (∃ i, s.map.phase = .loading i ∧ map = [1, i.wafer, word i.dieCount])
      ∨ (∃ i, s.map.phase = .ready i ∧ map = [2, i.wafer, word i.dieCount]))
    (modeWord : (s.mode = .setup ∧ w = 1) ∨ (s.mode = .run ∧ w = 2) ∨ (s.mode = .drain ∧ w = 3) ∨ (s.mode = .halt ∧ w = 4)) :
    s.page0 = [w] ++ words32 s.lineTime ++ map
      ++ [word s.map.nextIndex, word s.map.counts.available, word s.map.counts.reserved, word s.map.counts.staging,
        word s.map.counts.presented, word s.map.counts.carried, word s.map.counts.placed, word s.map.counts.rejected,
        word s.map.counts.suspect, word s.map.counts.lost, word s.map.eligible, word s.map.returned.length,
        word s.map.cursor, word (flag s.map.rescan 1 + flag s.map.waferLow 2 + flag s.map.waferEmpty 4),
        BitVec.ofInt 16 s.drift.dx, BitVec.ofInt 16 s.drift.dy, word s.report.log.length,
        word (s.report.log.length + (s.claimsOf .A).length + (s.claimsOf .B).length)]
      ++ words32 s.report.nextSeq ++ [word s.report.notices.length, word s.report.dropped] := by
  have mode : w = word s.mode.code := by
    rcases modeWord with ⟨is, rfl⟩ | ⟨is, rfl⟩ | ⟨is, rfl⟩ | ⟨is, rfl⟩ <;> rw [is] <;> rfl
  have wafer : map = [word s.map.phase.code, (s.map.phase.info.map WaferInfo.wafer).getD 0,
      word ((s.map.phase.info.map WaferInfo.dieCount).getD 0)] := by
    rcases mapWords with ⟨is, rfl⟩ | ⟨i, is, rfl⟩ | ⟨i, is, rfl⟩ <;> rw [is] <;> rfl
  rw [flag_eq flags, mode, wafer]
  simp only [Nat.mul_one]
  rfl

theorem page1_eq {s : State} {track place queue : List Word} {grant : Option Time} {given : Head → List Word}
    {flag : Bool → Nat → Nat} (flags : ∀ b n, flag b n = if b then n else 0)
    (trackWords : (s.track.phase = .still ∧ track = [0, 0]) ∨ (∃ n, s.track.phase = .draining n ∧ track = [1, word n])
      ∨ (∃ n, s.track.phase = .moving n ∧ track = [2, word n]))
    (placeWords : (s.dispenser.site = none ∧ place = [0, 0, 0, 0]) ∨ (∃ d, s.dispenser.site = some d
      ∧ place = [d.strip, bytePair d.column d.row] ++ words32 d.handout))
    (queueWords : (s.placement.queue = [] ∧ queue = [0, 0, 0])
      ∨ (∃ e, s.placement.queue = [e] ∧ queue = [word (1 + 16 * e.head.code), word e.die, 0])
      ∨ (∃ e f, s.placement.queue = [e, f]
        ∧ queue = [word (2 + 16 * e.head.code + 256 * f.head.code), word e.die, word f.die]))
    (granted : (s.arbiter.station = .free ∧ grant = none)
      ∨ (∃ o, (s.arbiter.station = .ordered o ∨ ∃ t, s.arbiter.station = .delivered o t
          ∨ s.arbiter.station = .presented o t) ∧ grant = s.arbiter.grantTimer.get o.head))
    (assigned : ∀ h, (s.assignedOf h = none ∧ given h = [0, 0, 0]) ∨ (∃ a, s.assignedOf h = some a
      ∧ given h = [a.strip, bytePair a.column a.row, word a.position])) :
    s.page1 = track ++ [word s.track.entry.val,
        word ((List.range s.settings.trackLength).countP fun p => (s.columnAt p).isSome), word s.track.strips.length,
        word s.dispenser.wet,
        word (flag s.dispenser.site.isSome 1 + flag (s.assignedOf .A).isSome 2 + flag (s.assignedOf .B).isSome 4
          + flag s.arbiter.presentTimer.isSome 8 + flag grant.isSome 16), queue.getD 0 0]
      ++ place ++ wordsTime s.dispenser.hold
      ++ given .A ++ wordsTime (s.placement.hold.get .A) ++ given .B ++ wordsTime (s.placement.hold.get .B)
      ++ wordsTime s.arbiter.presentTimer ++ wordsTime grant ++ [queue.getD 1 0, queue.getD 2 0] := by
  have phase : track = [word s.track.phase.code, word s.track.phase.amount] := by
    rcases trackWords with ⟨is, rfl⟩ | ⟨n, is, rfl⟩ | ⟨n, is, rfl⟩ <;> rw [is] <;> rfl
  have site : place = [(s.dispenser.site.map DispenseRef.strip).getD 0, bytePair
      ((s.dispenser.site.map DispenseRef.column).getD 0) ((s.dispenser.site.map DispenseRef.row).getD 0)]
      ++ wordsTime (s.dispenser.site.map DispenseRef.handout) := by
    rcases placeWords with ⟨is, rfl⟩ | ⟨d, is, rfl⟩ <;> rw [is] <;> rfl
  have placers : queue = [word (s.placement.queue.length + placerHead s.placement.queue[0]? * 16
        + placerHead s.placement.queue[1]? * 256), word ((s.placement.queue[0]?.map Placer.die).getD 0),
      word ((s.placement.queue[1]?.map Placer.die).getD 0)] := by
    rcases queueWords with ⟨is, rfl⟩ | ⟨e, is, rfl⟩ | ⟨e, f, is, rfl⟩
    · rw [is]; rfl
    · simp [is, placerHead, headCode, Nat.mul_comm 16, word]
    · simp [is, placerHead, headCode, Nat.mul_comm 16, Nat.mul_comm 256]
  have timer : grant = s.stationGrant := by
    rcases granted with ⟨is, rfl⟩ | ⟨o, is | ⟨t, is | is⟩, rfl⟩ <;> simp only [State.stationGrant, is, Station.order]
  have sites (h : Head) : s.assignedWords h = given h ++ wordsTime (s.placement.hold.get h) := by
    rcases assigned h with ⟨is, same⟩ | ⟨a, is, same⟩ <;> simp only [State.assignedWords, is, same]
  rw [State.page1, sites, sites, flag_eq flags, phase, site, placers, timer, ← columns_length]
  simp only [Nat.mul_one, List.append_assoc]
  rfl

theorem page2_eq {s : State} {flag : Bool → Nat → Nat} (flags : ∀ b n, flag b n = if b then n else 0) :
    s.page2 = [word s.capture.shot.queue.length, word s.capture.tda.queue.length, word s.capture.tdb.queue.length,
        word s.capture.shot.stray, word s.capture.tda.stray, word s.capture.tdb.stray,
        word s.capture.shot.lost, word s.capture.tda.lost, word s.capture.tdb.lost]
      ++ [.cell, .headA, .headB, .table, .dispense].map (fun p : Port =>
        bytePair (s.link p).requests.length (s.statusByte p).toNat)
      ++ [word (flag (s.headEnabled.get .A) 1 + flag (s.headEnabled.get .B) 2),
        word (flag (s.lampLevel 0) 1 + flag (s.lampLevel 1) 2 + flag (s.lampLevel 2) 4 + flag (s.lampLevel 3) 8
          + flag s.spoilLatch 16)]
      ++ [.cell, .headA, .headB, .table, .dispense].map (fun p : Port => word (s.link p).lostFrames) := by
  rw [flag_eq flags]
  simp only [Nat.mul_one]
  rfl

theorem stationWords_eq {s : State} {order waiting : List Word}
    (station : (s.arbiter.station = .free ∧ order = List.replicate 10 0)
      ∨ (∃ (o : Order) (state : Word) (handout : Option Time),
        ((s.arbiter.station = .ordered o ∧ state = 1 ∧ handout = none)
          ∨ ∃ t, handout = some t ∧ ((s.arbiter.station = .delivered o t ∧ state = 2)
            ∨ (s.arbiter.station = .presented o t ∧ state = 3)))
        ∧ order = [state, word o.head.code, word o.die, o.wafer] ++ words32 (BitVec.ofInt 32 o.x)
          ++ words32 (BitVec.ofInt 32 o.y) ++ wordsTime handout))
    (waits : (s.arbiter.waiting = [] ∧ waiting = [0, 0, 0, 0, 0])
      ∨ (∃ e, s.arbiter.waiting = [e] ∧ waiting = [1, word e.head.code, word e.die, 0, 0])
      ∨ (∃ e f, s.arbiter.waiting = [e, f]
        ∧ waiting = [2, word e.head.code, word e.die, word f.head.code, word f.die])) :
    s.stationWords = order ++ waiting := by
  have stands : order = [word s.arbiter.station.code, word (headCode (s.arbiter.station.order.map Order.head)),
        word ((s.arbiter.station.order.map Order.die).getD 0), (s.arbiter.station.order.map Order.wafer).getD 0]
      ++ wordsInt ((s.arbiter.station.order.map Order.x).getD 0) ++ wordsInt ((s.arbiter.station.order.map Order.y).getD 0)
      ++ wordsTime s.arbiter.station.handout := by
    rcases station with ⟨is, rfl⟩ | ⟨o, state, handout, ⟨is, rfl, rfl⟩ | ⟨t, rfl, ⟨is, rfl⟩ | ⟨is, rfl⟩⟩, rfl⟩ <;>
      rw [is] <;> rfl
  have queued : waiting = [word s.arbiter.waiting.length] ++ waiterWords s.arbiter.waiting[0]?
      ++ waiterWords s.arbiter.waiting[1]? := by
    rcases waits with ⟨is, rfl⟩ | ⟨e, is, rfl⟩ | ⟨e, f, is, rfl⟩ <;> rw [is] <;> rfl
  rw [stands, queued]
  simp only [State.stationWords, List.append_assoc]

theorem portStatusWords_eq {s : State} {p : Port} {held : List Word}
    (slot : ((s.link p).held = none ∧ held = [0, 0, 0]) ∨ (∃ x, (s.link p).held = some x
      ∧ held = bytePair x.request.code.toNat x.request.tag.toNat :: wordsTime x.expiry)) :
    s.portStatusWords p = [bytePair (s.link p).requests.length (s.link p).replies.length, held.getD 0 0,
        word ((s.statusByte p).toNat + if s.attn p then 256 else 0)] ++ held.drop 1
      ++ [word (s.link p).lostFrames, causeWord (s.link p).causes, word (s.link p).flushed]
      ++ wordsTime (s.link p).firstCause := by
  rw [State.portStatusWords, ← bit_mul]
  rcases slot with ⟨is, rfl⟩ | ⟨x, is, rfl⟩ <;> simp only [is] <;> rfl

theorem bytePair_eq {hi lo : Nat} (high : hi < 256) (low : lo < 256) : bytePair hi lo = word (256 * hi + lo) := by
  rw [bytePair, Nat.mod_eq_of_lt high, Nat.mod_eq_of_lt low, Nat.mul_comm]
  rfl

theorem assignedWords_length (s : State) (h : Head) : (s.assignedWords h).length = 5 := by
  unfold State.assignedWords
  split <;> rfl

theorem page1_length (s : State) : s.page1.length = 30 := by
  simp only [State.page1, List.length_append, assignedWords_length]
  rfl

/-! ## READ-SITE's words, by the state of the site (R89) -/

/-- A late flag, as its word. -/
theorem word_bit (b : Bool) : word (bit b) = if b then 1 else 0 := by cases b <;> rfl

theorem siteWords_dispensing (c : Column) (t : Time) : siteWords (some c) (some (.dispensing t))
    = [3, c.strip, word c.column, 0, 0, 0] ++ words32 t ++ List.replicate 8 0 := by
  simp only [siteWords, wordsTime, Option.map, Option.getD]
  rfl

theorem siteWords_wet (c : Column) (st : Stamp) : siteWords (some c) (some (.wet st))
    = [4, c.strip, word c.column, 0, 0, 0, 0, 0] ++ words32 st.time ++ words32 st.deadline ++ [0, 0, 0, 0] := by
  simp only [siteWords, wordsTime, Option.map, Option.getD]
  rfl

theorem siteWords_assigned (c : Column) (st : Stamp) (h : Head) (t : Time) (late : Bool) :
    siteWords (some c) (some (.assigned st h t late))
      = [5, c.strip, word c.column, 0, if late then 1 else 0, word h.code, 0, 0] ++ words32 st.time ++ words32 st.deadline
        ++ words32 t ++ [0, 0] := by
  rw [← word_bit]
  simp only [siteWords, wordsTime, Option.map, Option.getD]
  rfl

theorem siteWords_bonded (c : Column) (st : Stamp) (late : Bool) (die : Nat) (wafer : Word) :
    siteWords (some c) (some (.bonded st late die wafer))
      = [6, c.strip, word c.column, 0, if late then 1 else 0, 0, 0, 0] ++ words32 st.time ++ words32 st.deadline
        ++ [0, 0, word die, wafer] := by
  rw [← word_bit]
  simp only [siteWords, wordsTime, Option.map, Option.getD]
  rfl

theorem siteWords_spoiled_stamped (c : Column) (reason : SpoilReason) (st : Stamp) :
    siteWords (some c) (some (.spoiled reason (some st)))
      = [7, c.strip, word c.column, word reason.code, 0, 0, 0, 0] ++ words32 st.time ++ words32 st.deadline
        ++ [0, 0, 0, 0] := by
  simp only [siteWords, wordsTime, Option.map, Option.getD]
  rfl

theorem siteWords_spoiled_unstamped (c : Column) (reason : SpoilReason) :
    siteWords (some c) (some (.spoiled reason none))
      = [7, c.strip, word c.column, word reason.code] ++ List.replicate 12 0 := by
  simp only [siteWords, wordsTime, Option.map, Option.getD]
  rfl

/-- Settles O58: each reading by its request, and each table's words by the state it reads. -/
theorem readingsAnswerAndChangeNothing : Obligations.ReadingsAnswerAndChangeNothing := by
  refine ⟨fun s h tag idle => ?_, fun s tag idle => ⟨fun h => ?_, fun w notA notB => ?_, fun p r beyond => ?_,
      fun p r inside low => ?_, fun k beyond => ?_, fun k a page handed => ?_, ?_⟩,
    fun s p tag a running started settled room handed => ?_,
    fun s w map flag flags mapWords modeWord => page0_eq flags mapWords modeWord,
    fun s track place queue grant given flag flags trackWords placeWords queueWords granted assigned =>
      page1_eq flags trackWords placeWords queueWords granted assigned,
    fun s flag flags => page2_eq flags, fun s order waiting station waits => stationWords_eq station waits,
    fun s p held slot => portStatusWords_eq slot, fun hi lo high low => bytePair_eq high low, fun t => ⟨rfl, rfl⟩,
    fun s c x => ⟨rfl, rfl, page1_length s, rfl⟩, fun c st t h late die wafer reason id named => ?_⟩
  · exact (exec_claims idle).trans (congrArg Host.Outcome.next (takeClaims_of_none rfl))
  · exact (exec_readClaims idle (by simp)).trans (congrArg Host.Outcome.next (takeReadClaims_of_head rfl))
  · exact (exec_readClaims idle (by simp)).trans (congrArg Host.Outcome.next (takeReadClaims_of_other rfl notA notB))
  · exact (exec_readSite idle (by simp)).trans (congrArg Host.Outcome.next (takeReadSite_of_beyond rfl beyond))
  · exact (exec_readSite idle (by simp)).trans (congrArg Host.Outcome.next (takeReadSite_of_inside rfl inside low))
  · exact (exec_readStatus idle (by simp)).trans
      (congrArg Host.Outcome.next (takeReadStatus_of_none rfl (statusPage_of_beyond beyond)))
  · subst handed
    exact (exec_readStatus idle (by simp)).trans
      (congrArg Host.Outcome.next (takeReadStatus_of_page rfl (statusPage_of_page page)))
  · exact (exec_readStation idle).trans (congrArg Host.Outcome.next (takeReadStation_of_none rfl))
  · subst handed
    exact exec_portStatus running started settled room
  · subst named
    exact ⟨rfl, rfl, siteWords_dispensing .., siteWords_wet .., siteWords_assigned .., siteWords_bonded ..,
      siteWords_spoiled_stamped .., siteWords_spoiled_unstamped .., rfl, rfl, rfl⟩

end Sys2Proof.Machine
end

section
/-! THEOREMS. The log, the notices and the recovery requests on the cell port (O59, O60). -/

namespace Sys2Proof.Machine

open Sys2Proof

section

variable {s : State} {tag : Byte} {words : List Word}

theorem exec_readLog (idle : s.Idle .cell) (fits : words.length ≤ 24) : exec (.readLog tag words) s
    = .next (takeReadLog (Command.readLog.request tag words) (s.handed .cell .readLog tag words)) :=
  exec_handed (c := .readLog) rfl idle fits (by decide) (by decide)

theorem exec_readNotices (idle : s.Idle .cell) (fits : words.length ≤ 24) : exec (.readNotices tag words) s
    = .next (takeReadNotices (Command.readNotices.request tag words) (s.handed .cell .readNotices tag words)) :=
  exec_handed (c := .readNotices) rfl idle fits (by decide) (by decide)

theorem exec_headEnable (idle : s.Idle .cell) (fits : words.length ≤ 24) : exec (.headEnable tag words) s
    = .next (takeHeadEnable (Command.headEnable.request tag words) (s.handed .cell .headEnable tag words)) :=
  exec_handed (c := .headEnable) rfl idle fits (by decide) (by decide)

theorem exec_forfeit (idle : s.Idle .cell) (fits : words.length ≤ 24) : exec (.forfeit tag words) s
    = .next (takeForfeit (Command.forfeit.request tag words) (s.handed .cell .forfeit tag words)) :=
  exec_handed (c := .forfeit) rfl idle fits (by decide) (by decide)

theorem exec_lampAck (idle : s.Idle .cell) : exec (.lampAck tag []) s
    = .next (takeLampAck (Command.lampAck.request tag []) (s.handed .cell .lampAck tag [])) :=
  exec_handed (c := .lampAck) rfl idle (Nat.zero_le _) (by decide) (by decide)

end

/-! ## READ-LOG and READ-NOTICES (R148, R149, R154) -/

section

variable {s : State} {r : Request} {k : Word}

theorem takeReadLog_of_bad (words : r.words = [k]) (bad : k.toNat < 1 ∨ 2 < k.toNat) :
    takeReadLog r s = s.reply .cell r.tag .badparam [] := by
  simp only [takeReadLog, words, natAt, wordAt, List.length_singleton, ne_eq, not_true_eq_false, if_false,
    List.getD_cons_zero, bad, if_true]

theorem takeReadLog_of_empty (words : r.words = [k]) (first : 1 ≤ k.toNat) (last : k.toNat ≤ 2)
    (empty : s.report.log = []) : takeReadLog r s = s.reply .cell r.tag .none [] := by
  have good : ¬(k.toNat < 1 ∨ 2 < k.toNat) := by omega
  simp only [takeReadLog, words, natAt, wordAt, List.length_singleton, ne_eq, not_true_eq_false, if_false,
    List.getD_cons_zero, good, empty, List.isEmpty_nil, if_true]

theorem takeReadLog_of_records (words : r.words = [k]) (first : 1 ≤ k.toNat) (last : k.toNat ≤ 2)
    (some_ : s.report.log ≠ []) : takeReadLog r s
      = ((s.removeRecords k.toNat).reply .cell r.tag .done
        ((s.report.log.take k.toNat).flatMap BondRecord.toWords)).wakeReserves := by
  have good : ¬(k.toNat < 1 ∨ 2 < k.toNat) := by omega
  have notEmpty : ¬ s.report.log.isEmpty = true := mt List.isEmpty_iff.mp some_
  simp only [takeReadLog, words, natAt, wordAt, List.length_singleton, ne_eq, not_true_eq_false, if_false,
    List.getD_cons_zero, good, notEmpty, Bool.false_eq_true]

theorem takeReadNotices_of_bad (words : r.words = [k]) (bad : k.toNat < 1 ∨ 4 < k.toNat) :
    takeReadNotices r s = s.reply .cell r.tag .badparam [] := by
  simp only [takeReadNotices, words, natAt, wordAt, List.length_singleton, ne_eq, not_true_eq_false, if_false,
    List.getD_cons_zero, bad, if_true]

theorem takeReadNotices_of_empty (words : r.words = [k]) (first : 1 ≤ k.toNat) (last : k.toNat ≤ 4)
    (empty : s.report.notices = []) : takeReadNotices r s = s.reply .cell r.tag .none [] := by
  have good : ¬(k.toNat < 1 ∨ 4 < k.toNat) := by omega
  simp only [takeReadNotices, words, natAt, wordAt, List.length_singleton, ne_eq, not_true_eq_false, if_false,
    List.getD_cons_zero, good, empty, List.isEmpty_nil, if_true]

theorem takeReadNotices_of_notices (words : r.words = [k]) (first : 1 ≤ k.toNat) (last : k.toNat ≤ 4)
    (some_ : s.report.notices ≠ []) : takeReadNotices r s
      = (s.removeNotices k.toNat).reply .cell r.tag .done
        ((s.report.notices.take k.toNat).flatMap Notice.toWords) := by
  have good : ¬(k.toNat < 1 ∨ 4 < k.toNat) := by omega
  have notEmpty : ¬ s.report.notices.isEmpty = true := mt List.isEmpty_iff.mp some_
  simp only [takeReadNotices, words, natAt, wordAt, List.length_singleton, ne_eq, not_true_eq_false, if_false,
    List.getD_cons_zero, good, notEmpty, Bool.false_eq_true]

theorem notify_of_room (room : s.report.notices.length < 32) (kind : NoticeKind) (data : List Word) :
    s.notify kind data = { s with report := { s.report with
      notices := s.report.notices ++ [⟨kind, s.lineTime, data⟩] } } := if_pos room

theorem notify_of_full (full : 32 ≤ s.report.notices.length) (kind : NoticeKind) (data : List Word) :
    s.notify kind data = { s with report := { s.report with dropped := min (s.report.dropped + 1) 65535 } } :=
  if_neg (Nat.not_lt.mpr full)

end

theorem StampSource.code_eq (x : StampSource) : x.code = if x = .arrival then 1 else 0 := by cases x <;> rfl

/-- A record whose fields are within their ranges fills its layout without loss (R147). -/
theorem toWords_of_inRange {b : BondRecord} (bin : b.bin ≤ 15) (column : b.dieColumn ≤ 511) (row : b.dieRow ≤ 511)
    (stripColumn : b.stripColumn ≤ 63) (position : b.position ≤ 63) (stripRow : b.row ≤ 7) (retries : b.retries ≤ 3) :
    b.toWords = words32 b.seq
      ++ [b.wafer, word b.die, word (b.bin * 2 ^ 12 + b.dieColumn), word b.dieRow, b.strip,
        word (b.stripColumn * 2 ^ 8 + b.position),
        word (b.row + b.head.code * 2 ^ 4 + (if b.late then 2 ^ 8 else 0) + b.retries * 2 ^ 10
          + (if b.stampSource = .arrival then 2 ^ 12 else 0) + (if b.bondSource = .arrival then 2 ^ 13 else 0))]
      ++ words32 b.stamp ++ words32 b.bondTime ++ words32 b.margin := by
  have place : bytePair b.stripColumn b.position = word (b.stripColumn * 2 ^ 8 + b.position) := by
    simp only [bytePair_eq (show b.stripColumn < 256 by omega) (show b.position < 256 by omega), Nat.mul_comm 256,
      Nat.reducePow]
  have late : (if b.late then 2 ^ 8 else 0) = bit b.late * 256 := (bit_mul ..).symm
  have source (x : StampSource) (n : Nat) : (if x = .arrival then n else 0) = x.code * n := by
    rw [StampSource.code_eq, ite_mul, Nat.one_mul, Nat.zero_mul]
  rw [late, source, source, ← place, BondRecord.toWords, Nat.mod_eq_of_lt (by omega : b.bin < 16),
    Nat.mod_eq_of_lt (by omega : b.dieColumn < 512), Nat.mod_eq_of_lt (by omega : b.dieRow < 512),
    Nat.mod_eq_of_lt (by omega : b.row < 8), Nat.mod_eq_of_lt (by omega : b.retries < 4)]
  simp only [Nat.reducePow]

/-- Settles O59: the readings by what waits, a notice by the room of its queue, and the layout of a record. -/
theorem logAndNoticesAreReadOldestFirst : Obligations.LogAndNoticesAreReadOldestFirst := by
  refine ⟨fun s tag k idle => ⟨fun a handed => ⟨fun bad => ?_, fun first last => ⟨fun empty => ?_, fun some_ => ?_⟩⟩,
      fun a handed => ⟨fun bad => ?_, fun first last => ⟨fun empty => ?_, fun some_ => ?_⟩⟩⟩,
    fun s kind data => ⟨fun room => notify_of_room room kind data, fun full => notify_of_full full kind data⟩,
    fun b => rfl, fun b bin column row stripColumn position stripRow retries =>
      toWords_of_inRange bin column row stripColumn position stripRow retries⟩ <;> subst handed
  · exact (exec_readLog idle (by simp)).trans (congrArg Host.Outcome.next (takeReadLog_of_bad rfl bad))
  · exact (exec_readLog idle (by simp)).trans (congrArg Host.Outcome.next (takeReadLog_of_empty rfl first last empty))
  · exact (exec_readLog idle (by simp)).trans (congrArg Host.Outcome.next (takeReadLog_of_records rfl first last some_))
  · exact (exec_readNotices idle (by simp)).trans (congrArg Host.Outcome.next (takeReadNotices_of_bad rfl bad))
  · exact (exec_readNotices idle (by simp)).trans
      (congrArg Host.Outcome.next (takeReadNotices_of_empty rfl first last empty))
  · exact (exec_readNotices idle (by simp)).trans
      (congrArg Host.Outcome.next (takeReadNotices_of_notices rfl first last some_))

/-! ## HEAD-ENABLE, FORFEIT and LAMP-ACK (R198, R199, R203) -/

section

variable {s : State} {r : Request} {h : Head}

theorem takeHeadEnable_of_disable (words : r.words = [word h.code, 0]) :
    takeHeadEnable r s = (s.disableHead h).reply .cell r.tag .done [0] := by
  simp [takeHeadEnable, words, wordAt, headOf_code]

theorem takeHeadEnable_of_enable (words : r.words = [word h.code, 1]) :
    takeHeadEnable r s = (s.enableHead h).reply .cell r.tag .done [1] := by
  simp [takeHeadEnable, words, wordAt, headOf_code]

theorem takeHeadEnable_of_bad {code on : Word} (words : r.words = [code, on])
    (bad : (code ≠ 1 ∧ code ≠ 2) ∨ 1 < on.toNat) : takeHeadEnable r s = s.reply .cell r.tag .badparam [] := by
  have head : wordAt r.words 0 = code := by rw [words]; rfl
  have value : wordAt r.words 1 = on := by rw [words]; rfl
  rw [takeHeadEnable, if_neg (by simp [words]), head, value]
  rcases bad with ⟨notA, notB⟩ | beyond
  · rw [headOf_of_other notA notB]
  · have notOff : on ≠ 0 := by rintro rfl; exact absurd beyond (by decide)
    have notOn : on ≠ 1 := by rintro rfl; exact absurd beyond (by decide)
    split
    · rfl
    · rw [if_neg notOff, if_neg notOn]

theorem disableHead_of_enabled (enabled : s.headEnabled.get h = true) :
    s.disableHead h = (s.setEnabled h false).causeReaches h.port .headDisabled true := if_pos enabled

theorem disableHead_of_disabled (disabled : s.headEnabled.get h = false) : s.disableHead h = s := by
  simp [State.disableHead, disabled]

theorem enableHead_of_enabled (enabled : s.headEnabled.get h = true) : s.enableHead h = s := if_pos enabled

theorem enableHead_of_disabled (disabled : s.headEnabled.get h = false) :
    s.enableHead h = (s.setEnabled h true).setLink h.port ((s.link h.port).unstick .headDisabled) := by
  simp [State.enableHead, disabled]

theorem takeForfeit_of_enabled (words : r.words = [word h.code]) (enabled : s.headEnabled.get h = true) :
    takeForfeit r s = s.reply .cell r.tag .state [] := by
  simp [takeForfeit, words, wordAt, headOf_code, enabled]

theorem takeForfeit_of_empty (words : r.words = [word h.code]) (disabled : s.headEnabled.get h = false)
    (none : s.carriedClaim h = Option.none) : takeForfeit r s = s.reply .cell r.tag .none [] := by
  simp [takeForfeit, words, wordAt, headOf_code, disabled, none]

theorem takeForfeit_of_carried {c : Claim} (words : r.words = [word h.code]) (disabled : s.headEnabled.get h = false)
    (carried : s.carriedClaim h = some c) : takeForfeit r s
      = ((((s.removeClaim h c.die .carried).wakeReserves.moveDie c.wafer c.die .lost (some .forfeit) none).notify .dieLost
        (dieNotice c.die c.wafer .forfeit h)).reply .cell r.tag .done [word c.die, c.wafer]) := by
  simp [takeForfeit, words, wordAt, headOf_code, disabled, carried]

theorem takeForfeit_of_bad {code : Word} (words : r.words = [code]) (notA : code ≠ 1) (notB : code ≠ 2) :
    takeForfeit r s = s.reply .cell r.tag .badparam [] := by
  simp [takeForfeit, words, wordAt, headOf_of_other notA notB]

theorem takeLampAck_of_none (none : r.words = []) : takeLampAck r s
    = ({ s with spoilLatch := false }).reply .cell r.tag .done [if s.spoilLatch then 1 else 0] := by
  simp only [takeLampAck, none, List.length_nil, ne_eq, not_true_eq_false, if_false, word_bit]

/-- A cause joins the causes of a port in abort (R193). -/
theorem causeReaches_joins {p : Port} (aborted : (s.link p).causes ≠ []) (c : AbortCause) (sticky : Bool) :
    s.causeReaches p c sticky = s.setLink p { s.link p with causes := addCause (s.link p).causes c sticky } :=
  if_pos ((isAborted_iff s p).mpr aborted)

/-- A frame on the cell port leaves the head ports' links as they are. -/
theorem handed_cell_link_port (s : State) (c : Command) (tag : Byte) (words : List Word) (h : Head) :
    (s.handed .cell c tag words).link h.port = s.link h.port := by
  cases h <;> rfl

end

/-- Settles O60: each request by the head's flag and its carried die; the causes; the latch. -/
theorem recoveryRequestsDisableForfeitAndAcknowledge : Obligations.RecoveryRequestsDisableForfeitAndAcknowledge := by
  refine fun s tag idle => ⟨fun h code named => ?_, fun code on bad => ?_, fun code notA notB => ?_,
    fun t p c sticky => ⟨fun aborted => causeReaches_joins aborted c sticky,
      fun serving => causeReaches_enters serving c sticky, enterAbort_eq t p c sticky⟩, fun a handed => ?_⟩
  · subst named
    refine ⟨fun a handed => ⟨fun enabled => ?_, fun disabled => ?_⟩,
      fun a handed => ⟨fun disabled => ?_, fun enabled => ?_⟩,
      fun a handed => ⟨fun enabled => ?_, fun disabled none => ?_, fun c disabled carried => ?_⟩⟩ <;> subst handed
    · have taken := (exec_headEnable (tag := tag) (words := [word h.code, 0]) idle (by simp)).trans
        (congrArg Host.Outcome.next (takeHeadEnable_of_disable rfl))
      rw [disableHead_of_enabled (s := s.handed .cell .headEnable tag [word h.code, 0]) enabled] at taken
      exact taken
    · have taken := (exec_headEnable (tag := tag) (words := [word h.code, 0]) idle (by simp)).trans
        (congrArg Host.Outcome.next (takeHeadEnable_of_disable rfl))
      rw [disableHead_of_disabled (s := s.handed .cell .headEnable tag [word h.code, 0]) disabled] at taken
      exact taken
    · have taken := (exec_headEnable (tag := tag) (words := [word h.code, 1]) idle (by simp)).trans
        (congrArg Host.Outcome.next (takeHeadEnable_of_enable rfl))
      rw [enableHead_of_disabled (s := s.handed .cell .headEnable tag [word h.code, 1]) disabled, handed_cell_link_port,
        unstick_eq] at taken
      exact taken
    · have taken := (exec_headEnable (tag := tag) (words := [word h.code, 1]) idle (by simp)).trans
        (congrArg Host.Outcome.next (takeHeadEnable_of_enable rfl))
      rw [enableHead_of_enabled (s := s.handed .cell .headEnable tag [word h.code, 1]) enabled] at taken
      exact taken
    · exact (exec_forfeit idle (by simp)).trans (congrArg Host.Outcome.next
        (takeForfeit_of_enabled (s := s.handed .cell .forfeit tag _) rfl enabled))
    · exact (exec_forfeit idle (by simp)).trans (congrArg Host.Outcome.next
        (takeForfeit_of_empty (s := s.handed .cell .forfeit tag _) rfl disabled none))
    · exact (exec_forfeit idle (by simp)).trans (congrArg Host.Outcome.next
        (takeForfeit_of_carried (s := s.handed .cell .forfeit tag _) rfl disabled carried))
  · exact (exec_headEnable idle (by simp)).trans (congrArg Host.Outcome.next (takeHeadEnable_of_bad rfl bad))
  · exact (exec_forfeit idle (by simp)).trans (congrArg Host.Outcome.next (takeForfeit_of_bad rfl notA notB))
  · subst handed
    exact (exec_lampAck idle).trans (congrArg Host.Outcome.next (takeLampAck_of_none rfl))

end Sys2Proof.Machine
end
